-- ==== Sys2Proof/Word.lean ====
section
/-!
DEFINITION. The words the FK-24's manual treats as bits, and the index types of its fixed tables.
Helpers that a test could show wrong (byte order, signed bytes, saturation) stand in Sys2Proof/Machine/.
-/
namespace Sys2Proof

/-- One byte of a frame, of a key code or of a return line reading. -/
abbrev Byte := BitVec 8

/-- A 16-bit segment pattern: bit n drives Sn (08, "A pattern is a 16-bit value"). -/
abbrev Pattern := BitVec 16

/-- A panel time: a 16-bit count of milliseconds that wraps (R8). -/
abbrev Time := BitVec 16

/-- The pair of levels of one encoder channel, phase A in bit 1 and phase B in bit 0, so that 01, 11 and 10 are the
quadrature states 1, 3 and 2 (R95). -/
abbrev QuadPair := BitVec 2

/-- A key index, position × 8 + return line (00, "Key index"). -/
abbrev KeyIndex := Fin 64

/-- A display position and matrix column, P0 to P7. -/
abbrev Position := Fin 8

/-- A return line, K0 to K7. -/
abbrev ReturnLine := Fin 8

/-- A slot of the chord table, 0 to 7 (R52). -/
abbrev SlotIndex := Fin 8

end Sys2Proof
end

