-- ==== Sys2Proof/Syntax.lean ====
section
/-!
DEFINITION. The commands of the FK-24: one constructor of `Instr` for each row of spec/opcode_table.json, with the pin
levels and bytes the step reads as its operands (log 3).
-/
namespace Sys2Proof

/-- The two rotary encoder channels (R95). -/
inductive Channel where
  | e0
  | e1
  deriving DecidableEq, Repr

/-- The cause a READY notice carries (R167). A hardware reset gives POWER or PIN; SOFT is RESTART's alone. -/
inductive ReadyCause where
  | power
  | pin
  | soft
  deriving DecidableEq, Repr

/-- The levels of both encoder channels' pins at the instant of a command. -/
structure EncoderPins where
  e0 : QuadPair
  e1 : QuadPair
  deriving DecidableEq, Repr

/-- The steps of the part. The dispatcher's executions of requests, from `identify` to `getLinkStats`, take their kind,
tag and payload from the oldest entry of the request queue (R157). -/
inductive Instr where
  /-- HARDWARE_RESET (R10): power-on, or NRST released, with the level of SPD as reset ends (R137) and the encoder pins
  (R95). -/
  | hardwareReset (cause : ReadyCause) (spd : Bool) (pins : EncoderPins)
  /-- MILLISECOND_TICK (R8). -/
  | millisecondTick
  /-- SLOT_START (R3). -/
  | slotStart
  /-- SLOT_END (R4), with the levels of K0 to K7 (bit k is Kk, 1 is high). -/
  | slotEnd (returns : Byte)
  /-- CHORD_WINDOW_EXPIRY (R63). -/
  | chordWindowExpiry
  /-- REPEAT_TIMER_EXPIRY (R74). -/
  | repeatTimerExpiry
  /-- HOLD_TIMER_EXPIRY (R78) of one key's timer. -/
  | holdTimerExpiry (key : KeyIndex)
  /-- ENCODER_SAMPLE (R96) of one channel, with the pair its pins read. -/
  | encoderSample (channel : Channel) (pins : QuadPair)
  /-- COALESCING_TIMER_EXPIRY (R102) of one channel; the pins of both are read if it wakes the part (R105). -/
  | coalescingTimerExpiry (channel : Channel) (pins : EncoderPins)
  /-- ENCODER_PIN_CHANGE (R105): the encoder pins have taken these levels. -/
  | encoderPinChange (pins : EncoderPins)
  /-- BLINK_TIMER_EXPIRY (R113). -/
  | blinkTimerExpiry
  /-- TEST_TIMER_EXPIRY (R114). -/
  | testTimerExpiry
  /-- WAKE_SWEEP (R134), with the levels of K0 to K7 while the scanned lines are driven together. -/
  | wakeSweep (returns : Byte) (pins : EncoderPins)
  /-- RECEIVE_BYTE (R140): any byte whose stop bit is high, the check byte of a frame among them. `sawHigh` says whether
  RXD has been sampled high since the last framing error or hardware reset (R138, R143). -/
  | receiveByte (byte : Byte) (sawHigh : Bool) (pins : EncoderPins)
  /-- FRAMING_ERROR (R138): a byte whose stop bit is low. -/
  | framingError (sawHigh : Bool) (pins : EncoderPins)
  /-- GAP_TIMER_EXPIRY (R142). -/
  | gapTimerExpiry
  /-- ACK (R171): the check byte of the ACK frame that the receiver holds is taken and found good (log 6). -/
  | ack
  /-- REQUEST_ARRIVAL (R154): the check byte of the request frame that the receiver holds is taken and found good, and the
  dispatcher's next execution comes before the frame's report reaches the notice manager (R174, log 6, 7). -/
  | requestArrival
  /-- UNKNOWN_KIND_FRAME (R144): the check byte of the frame of unknown kind that the receiver holds is taken and found
  good (log 6). -/
  | unknownKindFrame
  /-- ARBITER_CHOICE (R147). -/
  | arbiterChoice
  /-- END_OF_TRANSMISSION (R146), with the encoder pins, which RESTART reads as it takes effect (R95). -/
  | endOfTransmission (pins : EncoderPins)
  /-- NOTICE_COMPOSITION (R169). -/
  | noticeComposition
  /-- ACKNOWLEDGEMENT_TIMER_EXPIRY (R172). -/
  | acknowledgementTimerExpiry
  /-- IDENTIFY (R159). -/
  | identify
  /-- GET_STATUS (R160). -/
  | getStatus
  /-- RESTART (R162). -/
  | restart
  /-- SET_SCAN (R11). -/
  | setScan
  /-- SET_KEYMAP (R32). -/
  | setKeymap
  /-- GET_KEYMAP (R35). -/
  | getKeymap
  /-- READ_KEYS (R49). -/
  | readKeys
  /-- SET_CHORD (R67). -/
  | setChord
  /-- GET_CHORD (R70). -/
  | getChord
  /-- SET_TIMING (R81). -/
  | setTiming
  /-- FLUSH_KEYS (R92). -/
  | flushKeys
  /-- SET_ENCODERS (R106), with the encoder pins, which enabling reads (R104). -/
  | setEncoders (pins : EncoderPins)
  /-- READ_ENCODERS (R108). -/
  | readEncoders
  /-- WRITE_DISPLAY (R119). -/
  | writeDisplay
  /-- SET_GLYPHS (R121). -/
  | setGlyphs
  /-- SET_DISPLAY (R123). -/
  | setDisplay
  /-- DISPLAY_TEST (R125). -/
  | displayTest
  /-- READ_DISPLAY (R127). -/
  | readDisplay
  /-- SLEEP (R130). -/
  | sleep
  /-- SET_NOTICES (R175). -/
  | setNotices
  /-- GET_LINK_STATS (R150). -/
  | getLinkStats
  /-- NRST_HELD_LOW (R137). -/
  | nrstHeldLow
  deriving DecidableEq, Repr

end Sys2Proof
end

