-- ==== Sys2Proof/WellFormed.lean ====
section
/-!
DEFINITION. Which commands can stand for a step of the part. Most operands cannot be ill-formed, because their types hold
only the values the manual gives; the cause of a hardware reset is the exception.
-/
namespace Sys2Proof

/-- A hardware reset's cause is POWER or PIN: SOFT is the cause RESTART gives (R167). -/
def ReadyCause.isHardware : ReadyCause → Bool
  | .power => true
  | .pin => true
  | .soft => false

/-- The check every command has to pass. -/
def Instr.wellFormed : Instr → Bool
  | .hardwareReset cause _ _ => cause.isHardware
  | .millisecondTick | .slotStart | .slotEnd _ | .chordWindowExpiry | .repeatTimerExpiry | .holdTimerExpiry _
  | .encoderSample _ _ | .coalescingTimerExpiry _ _ | .encoderPinChange _ | .blinkTimerExpiry | .testTimerExpiry
  | .wakeSweep _ _ | .receiveByte _ _ _ | .framingError _ _ | .gapTimerExpiry | .ack | .requestArrival | .unknownKindFrame
  | .arbiterChoice | .endOfTransmission _ | .noticeComposition | .acknowledgementTimerExpiry | .identify | .getStatus
  | .restart | .setScan | .setKeymap | .getKeymap | .readKeys | .setChord | .getChord | .setTiming | .flushKeys
  | .setEncoders _ | .readEncoders | .writeDisplay | .setGlyphs | .setDisplay | .displayTest | .readDisplay | .sleep
  | .setNotices | .getLinkStats | .nrstHeldLow => true

end Sys2Proof
end

