-- ==== Sys2Proof/Decode.lean ====
section
/-!
DEFINITION. The command that a word spells by the table's bits. spec/opcode_table.json gives no row any bits ("fields" is
empty and there is no match or mask in any of its 45 rows), so no word spells a command. The bytes of frames are read by
the frame receiver and by the payload readers of Sys2Proof/Machine/Operands.lean.
-/
namespace Sys2Proof

/-- No row of the table has bits, so every word is refused. -/
def decodeTableWord (_nbits _w : Nat) : Option Instr := none

end Sys2Proof
end

