-- ==== Sys2Proof/Machine/Constants.lean ====
section
/-!
DEFINITION. The fixed numbers of the manual: frame bytes, kinds, capacities and the lengths of the two timers that no
setting gives.
-/
namespace Sys2Proof.Machine

/-- The lead byte of every frame (R139). -/
def leadByte : Byte := 0xC3#8

/-- The kind of an ACK frame (R144). -/
def ackKind : Byte := 0x20#8

/-- The kind of a reject frame (R144). -/
def rejectKind : Byte := 0xBF#8

/-- Whether a kind is that of a request, 0x01 to 0x15 (R144). -/
def isRequestKind (kind : Byte) : Bool := 1 ≤ kind.toNat && kind.toNat ≤ 0x15

/-- Whether a kind is known: ACK or a request (R144). -/
def isKnownKind (kind : Byte) : Bool := kind == ackKind || isRequestKind kind

/-- The shortest and the longest body length a frame may give (R139). -/
def minLength : Nat := 2
def maxLength : Nat := 40

/-- The capacity of the request queue (R151). -/
def requestCapacity : Nat := 4

/-- The capacity of the reply list (R152). -/
def replyCapacity : Nat := 4

/-- The capacity of the key event queue, markers included (R83). -/
def queueCapacity : Nat := 16

/-- The largest encoded size of a KEYS notice's content (R90). -/
def keysContentBytes : Nat := 37

/-- The largest number of tries of a notice between one resumption and the next (R172). -/
def maxTries : Nat := 4

/-- The gap timer's length in milliseconds (R142). -/
def gapTime : Nat := 6

/-- The interval of the wake sweep in milliseconds (R134). -/
def sweepInterval : Nat := 20

/-- One unit of the blink half-period in milliseconds (R112). -/
def blinkUnit : Nat := 125

end Sys2Proof.Machine
end

