-- ==== Sys2Proof/Config.lean ====
section
/-!
DEFINITION. What one installation of the part fixes and the manual leaves to it: the levels of the input pins at power-on,
which `State.reset` has to name. No value of the manual is open after a command, so there is no free value here.
-/
namespace Sys2Proof.Config

/-- The level of the SPD strap at power-on. DESIGN CHOICE (unsafe, log 8): low, which R137 reads as 19,200 bit/s. -/
def spdAtPowerOn : Bool := false

/-- The levels of the return lines K0 to K7 at power-on. DESIGN CHOICE (unsafe, log 8): all high, held by their pull-ups. -/
def returnsAtPowerOn : Byte := 0xFF#8

/-- The pair of levels of each encoder channel at power-on. DESIGN CHOICE (unsafe, log 8): 11, as an unconnected channel
reads (07, "an unconnected channel reads 11"). -/
def encoderPinsAtPowerOn : QuadPair := 3#2

end Sys2Proof.Config
end

