-- ==== Sys2Proof/Machine/Blocks.lean ====
section
/-!
DEFINITION. The data types of the FK-24's blocks, as plain data. Each structure is one block's state; each field is named
after the manual's own name and cites the rule that gives it.
-/
namespace Sys2Proof.Machine

/-- A millisecond timer: stopped, or running with the panel time of the tick at which it expires (R9). -/
abbrev Timer := Option Time

/-! ### Scan engine -/

/-- The seven settings of a scan configuration (R10). -/
structure ScanConfig where
  positions   : Nat
  slotUnits   : Nat
  dp          : Nat
  dr          : Nat
  limit       : Nat
  ghostFilter : Bool
  keyScanning : Bool
  deriving DecidableEq, Repr

/-- A configuration awaiting the frame boundary, with the tag its reply must carry (R10, R13, R153). -/
structure PendingScan where
  config : ScanConfig
  tag    : Byte
  deriving DecidableEq, Repr

/-- The scan engine (R1, R8, R10). `slotRunning` says that a slot has started and not yet ended. `cutSlot` is the position of
the slot in which RESTART has taken effect, while the key sample that may fall at that same instant can still be taken
(R164): a field of the model's own (log 27). -/
structure ScanBlock where
  config      : ScanConfig
  pendingScan : Option PendingScan
  slotIndex   : Position
  slotRunning : Bool
  cutSlot     : Option Position
  panelTime   : Time
  deriving DecidableEq, Repr

/-- The levels the part drives on P0 to P7 and S0 to S15 (1 is high), and the sixteenths of the slot for which the segment
levels stand (R3, R116, log 10). `swept` holds the levels of P0 to P7 during the 250 µs of the wake sweep that used the
lines last, and is all inactive where a slot, a release or a reset did (R134, log 12). -/
structure PanelLines where
  position : Byte
  segment  : Pattern
  lit      : Nat
  swept    : Byte
  deriving DecidableEq, Repr

/-- The levels of the input pins as last presented by a command (log 3): K0 to K7, both encoders, SPD and NRST. NRST is
low while the part is held in reset. -/
structure InputPins where
  returns : Byte
  e0      : QuadPair
  e1      : QuadPair
  spd     : Bool
  nrst    : Bool
  deriving DecidableEq, Repr

/-! ### Key processor -/

/-- One entry of the key map table (R16). -/
structure KeyMapEntry where
  code          : Byte
  enabled       : Bool
  repeats       : Bool
  releaseReport : Bool
  holdReport    : Bool
  deriving DecidableEq, Repr

/-- The state of a key (R18). -/
inductive KeyPhase where
  | up
  | making
  | down
  | breaking
  | blocked
  deriving DecidableEq, Repr

/-- Why a confirmed press was refused (R39, R42). -/
inductive BlockReason where
  | ghost
  | rollover
  deriving DecidableEq, Repr

/-- One record of the key state table (R18). `contact` is true for closed. -/
structure KeyRecord where
  phase       : KeyPhase
  contact     : Bool
  count       : Nat
  blockReason : Option BlockReason
  chorded     : Bool
  admission   : Option Time
  deriving DecidableEq, Repr

/-- The key processor: key map table, key state table and down-set, oldest admission first (R16, R18, R44). -/
structure KeyBlock where
  map     : Vector KeyMapEntry 64
  table   : Vector KeyRecord 64
  downSet : List KeyIndex
  deriving DecidableEq, Repr

/-! ### Chord matcher -/

/-- The record of an occupied chord slot; the members stand in the order SET_CHORD gave them (R52). -/
structure ChordSlot where
  code    : Byte
  members : List KeyIndex
  deriving DecidableEq, Repr

/-- One held press (R54). -/
structure HeldPress where
  key  : KeyIndex
  time : Time
  deriving DecidableEq, Repr

/-- The chord matcher: chord table, held list (oldest first) and chord window timer (R52, R54, R55). -/
structure ChordBlock where
  slots  : Vector (Option ChordSlot) 8
  held   : List HeldPress
  window : Timer
  deriving DecidableEq, Repr

/-! ### Repeat and hold unit -/

/-- DELAY until the first REPEAT of the owner, PERIOD from then on (R72). -/
inductive RepeatPhase where
  | delay
  | period
  deriving DecidableEq, Repr

/-- The repeat owner (R72). -/
structure RepeatOwner where
  key   : KeyIndex
  phase : RepeatPhase
  deriving DecidableEq, Repr

/-- The repeat and hold unit; the four settings of SET_TIMING are in milliseconds (R71, R72, R77). -/
structure RepeatHoldBlock where
  repeatDelay  : Nat
  repeatPeriod : Nat
  holdTime     : Nat
  chordWindow  : Nat
  owner        : Option RepeatOwner
  timer        : Timer
  holdTimers   : Vector Timer 64
  deriving DecidableEq, Repr

/-! ### Key event queue -/

/-- One entry of the key event queue: an event, or a LOST marker with its discarded count (R84). -/
inductive QueueEntry where
  | press (code : Byte) (key : KeyIndex) (time : Time)
  | release (code : Byte) (key : KeyIndex) (time : Time)
  | hold (code : Byte) (key : KeyIndex) (time : Time)
  | repeated (code : Byte) (key : KeyIndex) (time : Time) (count : Nat)
  | chord (code : Byte) (slot : SlotIndex) (time : Time)
  | lost (count : Nat)
  deriving DecidableEq, Repr

/-! ### Encoder unit -/

/-- One encoder channel (R95). The interval is in milliseconds; a stopped timer is the manual's "expired". `sampleDue`
says that a tick has come whose sample has not been taken yet (R96): a field of the model's own (log 5). -/
structure EncoderChannel where
  enabled        : Bool
  stepsPerDetent : Nat
  interval       : Nat
  quad           : QuadPair
  acc            : Int
  position       : BitVec 16
  delta          : Int
  overFlag       : Bool
  timer          : Timer
  sampleDue      : Bool
  deriving DecidableEq, Repr

/-- The encoder unit's two channel records (R95). -/
structure EncoderBlock where
  e0 : EncoderChannel
  e1 : EncoderChannel
  deriving DecidableEq, Repr

/-! ### Display composer -/

/-- The two glyph banks (R111). -/
inductive Bank where
  | a
  | b
  deriving DecidableEq, Repr

/-- A display record's mode with the fields of its mode (R110). -/
inductive DisplayMode where
  | blank
  | glyph (bank : Bank) (code : Fin 64)
  | raw (pattern : Pattern)
  deriving DecidableEq, Repr

/-- One position record of the display buffer (R110). -/
structure DisplayRecord where
  mode  : DisplayMode
  point : Bool
  blink : Bool
  dim   : Bool
  deriving DecidableEq, Repr

/-- The display composer (R110 to R114, R117). The blink half-period is in units of 125 ms. The display test is ON exactly
while its timer runs. -/
structure DisplayBlock where
  buffer     : Vector DisplayRecord 8
  bankA      : Vector Pattern 64
  bankB      : Vector Pattern 64
  enable     : Bool
  brightness : Nat
  blinkHalf  : Nat
  blinkOn    : Bool
  blinkTimer : Timer
  testTimer  : Timer
  shown      : Vector Pattern 8
  deriving DecidableEq, Repr

/-! ### Power control -/

/-- The power state (R129). -/
inductive PowerState where
  | awake
  | sleepPending
  | asleep
  deriving DecidableEq, Repr

/-- The wake mask (R129). -/
structure WakeMask where
  keys : Bool
  e0   : Bool
  e1   : Bool
  deriving DecidableEq, Repr

/-- The cause a WAKE notice carries (R135). -/
inductive WakeCause where
  | key
  | encoder
  | link
  deriving DecidableEq, Repr

/-- Power control, with the 20 ms interval of the wake sweep (R129, R134). -/
structure PowerBlock where
  state    : PowerState
  mask     : WakeMask
  linkSeen : Bool
  sweep    : Timer
  deriving DecidableEq, Repr

/-! ### Link interface -/

/-- The link rate (R137). -/
inductive LinkRate where
  | b19200
  | b115200
  deriving DecidableEq, Repr

/-- A frame's body, taken apart into kind, tag and payload (R139). It is also an entry of the request queue (R151) and of
the reply list (R152). -/
structure Frame where
  kind    : Byte
  tag     : Byte
  payload : List Byte
  deriving DecidableEq, Repr

/-- The frame receiver's state with the partial frame it holds; `body` holds the bytes taken, in order (R140). -/
inductive RxState where
  | hunt
  | length
  | body (len : Nat) (got : List Byte)
  | check (len : Nat) (got : List Byte)
  deriving DecidableEq, Repr

/-- What the frame on TXD is: a frame of the reply list, or a notice (R146, R147). -/
inductive TxSource where
  | reply
  | notice
  deriving DecidableEq, Repr

/-- The transmitter's own copy of the frame in progress (R145). A notice's sequence number is its frame's tag. -/
structure TxFrame where
  frame  : Frame
  source : TxSource
  deriving DecidableEq, Repr

/-- The eight link counters, in the order of R149. -/
structure LinkCounters where
  framingErrors   : Nat
  lengthErrors    : Nat
  checkErrors     : Nat
  gapAborts       : Nat
  queueFull       : Nat
  framesDropped   : Nat
  unmatchedAcks   : Nat
  retransmissions : Nat
  deriving DecidableEq, Repr

/-- The link interface. `reportOwed` says that the report of a valid request frame has not reached the notice manager yet
(R144, R174): a field of the model's own (log 7). `lineHeld` says that no start bit is taken until RXD has been sampled
high (R138, R143). `tx` is absent while the transmitter is IDLE (R145). -/
structure LinkBlock where
  rate       : LinkRate
  rx         : RxState
  gapTimer   : Timer
  lineHeld   : Bool
  reportOwed : Bool
  tx         : Option TxFrame
  replyRun   : Nat
  counters   : LinkCounters
  deriving DecidableEq, Repr

/-! ### Request dispatcher -/

/-- The dispatcher's state (R156). -/
inductive DispatcherPhase where
  | idle
  | waitReplySpace
  | scanWait
  | restartWait
  | sleepWait
  deriving DecidableEq, Repr

/-- The request queue and the reply list, oldest first, and the dispatcher's state (R151, R152, R156). -/
structure DispatchBlock where
  requests : List Frame
  replies  : List Frame
  phase    : DispatcherPhase
  deriving DecidableEq, Repr

/-! ### Notice manager -/

/-- The enable flags of the maskable classes (R165). -/
structure ClassMask where
  panelFault : Bool
  keys       : Bool
  encoder    : Bool
  deriving DecidableEq, Repr

/-- RUNNING or STALLED (R168). -/
inductive NoticeState where
  | running
  | stalled
  deriving DecidableEq, Repr

/-- The transmit state of an outstanding notice (R168). -/
inductive TransmitState where
  | queued
  | sent
  | resend
  deriving DecidableEq, Repr

/-- The fault record (R166). -/
structure FaultRecord where
  ghostCount    : Nat
  lastGhost     : KeyIndex
  rolloverCount : Nat
  lastRollover  : KeyIndex
  e0Count       : Nat
  e1Count       : Nat
  deriving DecidableEq, Repr

/-- One channel report of an ENCODER notice (R103). -/
structure ChannelReport where
  channel  : Channel
  overFlag : Bool
  delta    : Int
  position : BitVec 16
  deriving DecidableEq, Repr

/-- The five classes of notice, in priority order (R165). -/
inductive NoticeClass where
  | ready
  | wake
  | panelFault
  | keys
  | encoder
  deriving DecidableEq, Repr

/-- The content composed for a notice (R169). -/
inductive NoticeContent where
  | ready (cause : ReadyCause)
  | wake (cause : WakeCause)
  | panelFault (record : FaultRecord)
  | keys (entries : List QueueEntry)
  | encoder (reports : List ChannelReport)
  deriving DecidableEq, Repr

/-- The class a content belongs to (R165). -/
def NoticeContent.cls : NoticeContent → NoticeClass
  | .ready _ => .ready
  | .wake _ => .wake
  | .panelFault _ => .panelFault
  | .keys _ => .keys
  | .encoder _ => .encoder

/-- One entry of the outstanding list (R168). -/
structure OutstandingNotice where
  seq      : Byte
  content  : NoticeContent
  tries    : Nat
  transmit : TransmitState
  deriving DecidableEq, Repr

/-- The notice manager: settings, sequence counter, notice state, outstanding list (oldest first), acknowledgement timer,
READY and WAKE flags and fault record (R166 to R168). The timeout is in milliseconds. -/
structure NoticeBlock where
  mask        : ClassMask
  window      : Nat
  timeout     : Nat
  nextSeq     : Byte
  state       : NoticeState
  outstanding : List OutstandingNotice
  timer       : Timer
  ready       : Option ReadyCause
  wake        : Option WakeCause
  fault       : FaultRecord
  deriving DecidableEq, Repr

end Sys2Proof.Machine
end

