-- ==== Sys2Proof/Machine/ResetValues.lean ====
section
/-!
DEFINITION. The value every block takes at either kind of reset, as the rule that specifies the block gives it. Hardware
reset, RESTART and `State.reset` are assembled from these.
-/
namespace Sys2Proof.Machine

/-- The scan configuration after either reset (R10). -/
def resetConfig : ScanConfig :=
  { positions := 8, slotUnits := 4, dp := 3, dr := 3, limit := 4, ghostFilter := true, keyScanning := true }

/-- The scan engine after either reset: slot 0 is the next to start, panel time is 0 (R8, R10). -/
def resetScan : ScanBlock :=
  { config := resetConfig, pendingScan := none, slotIndex := 0, slotRunning := false, cutSlot := none,
    panelTime := 0#16 }

/-- Every position line at its inactive (high) level and every segment line low (R3, R4, R10). -/
def releasedLines : PanelLines :=
  { position := 0xFF#8, segment := 0x0000#16, lit := 0, swept := 0xFF#8 }

/-- A key map entry after either reset: the code is the key index (R16). -/
def resetMapEntry (k : KeyIndex) : KeyMapEntry :=
  { code := BitVec.ofNat 8 k.val, enabled := true, repeats := false, releaseReport := true, holdReport := false }

/-- A key state record after either reset or at wake (R18, R31). -/
def upRecord : KeyRecord :=
  { phase := .up, contact := false, count := 0, blockReason := none, chorded := false, admission := none }

/-- The key processor after either reset (R16, R18, R45). -/
def resetKeys : KeyBlock :=
  { map := Vector.ofFn resetMapEntry, table := Vector.replicate 64 upRecord, downSet := [] }

/-- The chord matcher after either reset (R52, R54, R55). -/
def resetChords : ChordBlock :=
  { slots := Vector.replicate 8 none, held := [], window := none }

/-- The repeat and hold unit after either reset (R71, R72, R77). -/
def resetRepeatHold : RepeatHoldBlock :=
  { repeatDelay := 500, repeatPeriod := 100, holdTime := 1000, chordWindow := 50, owner := none, timer := none,
    holdTimers := Vector.replicate 64 none }

/-- An encoder channel after either reset, with the pair its pins read as the reset takes effect (R95); its first sample
awaits the next tick (R96). -/
def resetChannel (pins : QuadPair) : EncoderChannel :=
  { enabled := true, stepsPerDetent := 4, interval := 50, quad := pins, acc := 0, position := 0#16, delta := 0,
    overFlag := false, timer := none, sampleDue := false }

/-- The encoder unit after either reset (R95). -/
def resetEncoders (e0 e1 : QuadPair) : EncoderBlock :=
  { e0 := resetChannel e0, e1 := resetChannel e1 }

/-- A BLANK record with its attributes clear (R110). -/
def blankRecord : DisplayRecord :=
  { mode := .blank, point := false, blink := false, dim := false }

/-- The sixteen digits of bank A, 0 to F, on segments a to g (R111). -/
def digitPatterns : List Pattern :=
  [0x003F#16, 0x0006#16, 0x005B#16, 0x004F#16, 0x0066#16, 0x006D#16, 0x007D#16, 0x0007#16,
   0x007F#16, 0x006F#16, 0x0077#16, 0x007C#16, 0x0039#16, 0x005E#16, 0x0079#16, 0x0071#16]

/-- Bank A after either reset: the digits, then dark entries (R111). -/
def resetBankA : Vector Pattern 64 :=
  Vector.ofFn fun c => digitPatterns.getD c.val 0x0000#16

/-- The display composer after either reset, at panel time 0: the blink timer runs 500 ms from there (R110 to R114,
R117). -/
def resetDisplay : DisplayBlock :=
  { buffer := Vector.replicate 8 blankRecord, bankA := resetBankA, bankB := Vector.replicate 64 0x0000#16,
    enable := true, brightness := 8, blinkHalf := 4, blinkOn := true, blinkTimer := some 500#16, testTimer := none,
    shown := Vector.replicate 8 0x0000#16 }

/-- Power control after either reset (R129). -/
def resetPower : PowerBlock :=
  { state := .awake, mask := { keys := true, e0 := true, e1 := true }, linkSeen := false, sweep := none }

/-- The rate the SPD strap selects (R137). -/
def rateOfStrap (spd : Bool) : LinkRate :=
  if spd then .b115200 else .b19200

/-- The link counters after a hardware reset (R149). -/
def zeroCounters : LinkCounters :=
  { framingErrors := 0, lengthErrors := 0, checkErrors := 0, gapAborts := 0, queueFull := 0, framesDropped := 0,
    unmatchedAcks := 0, retransmissions := 0 }

/-- The link interface after either reset; rate, counters and the wait for RXD high are what the kind of reset gives
(R137, R143, R145, R147, R149). -/
def resetLink (rate : LinkRate) (counters : LinkCounters) (lineHeld : Bool) : LinkBlock :=
  { rate := rate, rx := .hunt, gapTimer := none, lineHeld := lineHeld, reportOwed := false, tx := none,
    replyRun := 0, counters := counters }

/-- The request dispatcher after either reset (R151, R152, R156). -/
def resetDispatch : DispatchBlock :=
  { requests := [], replies := [], phase := .idle }

/-- The fault record when it is clear (R166). -/
def clearFault : FaultRecord :=
  { ghostCount := 0, lastGhost := 0, rolloverCount := 0, lastRollover := 0, e0Count := 0, e1Count := 0 }

/-- The notice manager after either reset, with READY raised for the reset's own cause and WAKE lowered (R166 to R168). -/
def resetNotices (cause : ReadyCause) : NoticeBlock :=
  { mask := { panelFault := true, keys := true, encoder := true }, window := 1, timeout := 100, nextSeq := 0#8,
    state := .running, outstanding := [], timer := none, ready := some cause, wake := none, fault := clearFault }

end Sys2Proof.Machine
end

