-- ==== Sys2Proof/Machine/State.lean ====
section
/-!
DEFINITION. The whole state of the FK-24, block by block, with the queue of the commands that are waiting; the reasons a
step could stop; and the state right after a power-on reset.
-/
namespace Sys2Proof.Machine

/-- Faults. There are none: the manual names no behaviour that stops the part. Panel faults are counted in the fault
record (R47, R98), link errors in the link counters (R149), and refused requests are answered (R157). -/
inductive Fault where
  deriving DecidableEq, Repr

/-- Refusals. -/
inductive Refusal where
  /-- Raised by `exec`'s arm of a command that has no meaning yet. Safe: the machine stops. No arm raises it now. -/
  | notModelled (mnemonic : String)
  deriving DecidableEq, Repr

/-- The state of the part. `pending` is the model's own queue of waiting commands, first in, first out. -/
structure State where
  scan       : ScanBlock
  lines      : PanelLines
  pins       : InputPins
  keys       : KeyBlock
  chords     : ChordBlock
  repeatHold : RepeatHoldBlock
  queue      : List QueueEntry
  encoders   : EncoderBlock
  display    : DisplayBlock
  power      : PowerBlock
  link       : LinkBlock
  dispatch   : DispatchBlock
  notices    : NoticeBlock
  pending    : List Instr
  deriving DecidableEq, Repr

/-- The part right after a power-on reset (R10, R16, R18, R45, R52, R54, R71, R72, R77, R83, R95, R110 to R114, R117,
R129, R137, R143, R145, R147, R149, R151, R152, R156, R166 to R168). The pin levels, and with SPD the link rate, are
DESIGN CHOICES (log 8). -/
def State.reset : State :=
  { scan := resetScan
    lines := releasedLines
    pins := { returns := Config.returnsAtPowerOn, e0 := Config.encoderPinsAtPowerOn, e1 := Config.encoderPinsAtPowerOn,
              spd := Config.spdAtPowerOn, nrst := true }
    keys := resetKeys
    chords := resetChords
    repeatHold := resetRepeatHold
    queue := []
    encoders := resetEncoders Config.encoderPinsAtPowerOn Config.encoderPinsAtPowerOn
    display := resetDisplay
    power := resetPower
    link := resetLink (rateOfStrap Config.spdAtPowerOn) zeroCounters true
    dispatch := resetDispatch
    notices := resetNotices .power
    pending := [] }

end Sys2Proof.Machine
end

