-- ==== Sys2Proof/Machine/Ops.lean ====
section
/-!
DEFINITION. The operations the commands share: gating by NRST, saturating counts, millisecond timers, pins and tables, the
reply list and the dispatcher's resting state, both resets, sleep entry and wake.
-/
namespace Sys2Proof.Machine

/-- What a command answers. -/
abbrev Result := Host.Outcome State Fault Refusal

/-! ### The report of a valid frame (R144, R174), and the frame of every step -/

/-- An entry becomes RESEND with try count 1 (R174). -/
def resumeEntry (n : OutstandingNotice) : OutstandingNotice :=
  { n with tries := 1, transmit := .resend }

/-- The report of a valid frame ends a stall: RUNNING, with every remaining entry RESEND and try count 1 (R174). -/
def reportValidFrame (s : State) : State :=
  match s.notices.state with
  | .running => s
  | .stalled =>
    { s with
      notices.state := .running
      notices.outstanding := s.notices.outstanding.map resumeEntry }

/-- A report that is still owed reaches the notice manager (R174, log 7). -/
def deliverReport (s : State) : State :=
  if s.link.reportOwed then reportValidFrame { s with link.reportOwed := false } else s

/-- A step of the part while it is not held in reset, an owed report first; while NRST is low no step is taken (R10, R137,
R174, log 7, 16). -/
def whenLive (step : State → State) (s : State) : Result :=
  if s.pins.nrst then .next (step (deliverReport s)) else .next s

/-- The dispatcher's execution of a request while the part is not held in reset: the one step that an owed report may come
after (R174, log 7). -/
def whenServing (step : State → State) (s : State) : Result :=
  if s.pins.nrst then .next (deliverReport (step s)) else .next s

/-- A count that rises by 1 and stays at its cap (R47, R86, R98, R149). -/
def satInc (cap n : Nat) : Nat :=
  if n < cap then n + 1 else n

/-! ### Panel time and timers -/

/-- The panel time of an event (R8). -/
def State.now (s : State) : Time := s.scan.panelTime

/-- A timer of `ms` milliseconds started at panel time `now`: it expires at the tick that brings panel time to `now + ms`,
reckoned modulo 65536 (R9). -/
def startTimer (now : Time) (ms : Nat) : Timer :=
  some (now + BitVec.ofNat 16 ms)

/-- Whether a timer's expiry tick has come: the timer runs and panel time stands at its expiry tick, or past it if the
expiry has not been taken yet. No timer is longer than 5,000 ms, so half the range of panel time tells past from future
(R9, log 4). -/
def timerDue (t : Timer) (now : Time) : Bool :=
  match t with
  | none => false
  | some d => decide ((now - d).toNat < 32768)

/-- The milliseconds from panel time `now` to a running timer's expiry tick, and 1 where that tick has come (R127). -/
def timerRemaining (t : Timer) (now : Time) : Nat :=
  match t with
  | none => 0
  | some d => if timerDue t now then 1 else (d - now).toNat

/-! ### Pins and tables -/

/-- The encoder pins take the levels a command presents (log 3). -/
def presentEncoderPins (p : EncoderPins) (s : State) : State :=
  { s with pins.e0 := p.e0, pins.e1 := p.e1 }

/-- The return lines take the levels a command presents (log 3). -/
def presentReturns (r : Byte) (s : State) : State :=
  { s with pins.returns := r }

/-- The key index of a position and a return line: position × 8 + line (00, "Key index"). -/
def keyAt (p : Position) (l : ReturnLine) : KeyIndex :=
  ⟨p.val * 8 + l.val, by omega⟩

/-- The position of a key. -/
def keyPosition (k : KeyIndex) : Position := ⟨k.val / 8, by omega⟩

/-- The return line of a key. -/
def keyLine (k : KeyIndex) : ReturnLine := ⟨k.val % 8, by omega⟩

/-- The eight positions, in ascending order. -/
def allPositions : List Position := List.finRange 8

/-- The eight return lines, in ascending order. -/
def allLines : List ReturnLine := List.finRange 8

/-- The 64 keys, in ascending key index. -/
def allKeys : List KeyIndex := List.finRange 64

/-- One key's record of the key state table. -/
def State.record (s : State) (k : KeyIndex) : KeyRecord := s.keys.table[k]

/-- One key's entry of the key map table. -/
def State.mapEntry (s : State) (k : KeyIndex) : KeyMapEntry := s.keys.map[k]

/-- Replace one key's record. -/
def State.setRecord (s : State) (k : KeyIndex) (r : KeyRecord) : State :=
  { s with keys.table := s.keys.table.set k r }

/-- One encoder channel. -/
def State.channel (s : State) : Channel → EncoderChannel
  | .e0 => s.encoders.e0
  | .e1 => s.encoders.e1

/-- Replace one encoder channel. -/
def State.setChannel (s : State) (c : Channel) (e : EncoderChannel) : State :=
  match c with
  | .e0 => { s with encoders.e0 := e }
  | .e1 => { s with encoders.e1 := e }

/-- The pair of levels presented on one channel's pins. -/
def State.pinsOf (s : State) : Channel → QuadPair
  | .e0 => s.pins.e0
  | .e1 => s.pins.e1

/-- Set a running hold timer, or stop it (R77). -/
def State.setHoldTimer (s : State) (k : KeyIndex) (t : Timer) : State :=
  { s with repeatHold.holdTimers := s.repeatHold.holdTimers.set k t }

/-! ### Reply list and dispatcher -/

/-- The places of the reply list that are held, the place reserved in SCAN_WAIT counted (R152). -/
def repliesHeld (d : DispatchBlock) : Nat :=
  d.replies.length + if d.phase = .scanWait then 1 else 0

/-- The state of a dispatcher that has nothing in hand while AWAKE: WAIT_REPLY_SPACE if a request waits and the reply list
is full, IDLE otherwise (R156, R158). -/
def restingPhase (requests replies : List Frame) : DispatcherPhase :=
  if requests ≠ [] ∧ replyCapacity ≤ replies.length then .waitReplySpace else .idle

/-- An IDLE dispatcher enters WAIT_REPLY_SPACE at the moment its condition holds (R156, R158). -/
def settleDispatcher (s : State) : State :=
  if s.dispatch.phase = .idle ∧ s.power.state = .awake then
    { s with dispatch.phase := restingPhase s.dispatch.requests s.dispatch.replies }
  else s

/-- A frame is appended at the newest end of the reply list (R152). -/
def postFrame (f : Frame) (s : State) : State :=
  { s with dispatch.replies := s.dispatch.replies ++ [f] }

/-- The reply to a request: its kind plus 0x80, its tag, and the given payload (R153). -/
def replyTo (r : Frame) (payload : List Byte) : Frame :=
  { kind := r.kind + 0x80#8, tag := r.tag, payload := payload }

/-- The dispatcher posts a request's reply and has nothing more in hand (R157). -/
def finishRequest (r : Frame) (payload : List Byte) (s : State) : State :=
  { s with
    dispatch.replies := s.dispatch.replies ++ [replyTo r payload]
    dispatch.phase := restingPhase s.dispatch.requests (s.dispatch.replies ++ [replyTo r payload]) }

/-! ### Resets -/

/-- Every block but the link interface and the pins takes its reset value, READY is raised with the reset's own cause, and
everything in flight is discarded (R10, R30, R45, R163, R167). -/
def resetPart (cause : ReadyCause) (link : LinkBlock) (s : State) : State :=
  { scan := resetScan
    lines := releasedLines
    pins := s.pins
    keys := resetKeys
    chords := resetChords
    repeatHold := resetRepeatHold
    queue := []
    encoders := resetEncoders s.pins.e0 s.pins.e1
    display := resetDisplay
    power := resetPower
    link := link
    dispatch := resetDispatch
    notices := resetNotices cause
    pending := s.pending }

/-- A hardware reset ends: the rate is read from the strap, the counters are cleared, and reception waits for RXD to be
sampled high (R137, R143, R149). -/
def hardwareResetEnds (cause : ReadyCause) (s : State) : State :=
  resetPart cause (resetLink (rateOfStrap s.pins.spd) zeroCounters true) s

/-- The slot in progress whose key sample may fall at this instant: none with key scanning off, whose slot ends take no
sample (R4, R5). -/
def State.sampledSlot (s : State) : Option Position :=
  if s.scan.slotRunning && s.scan.config.keyScanning then some s.scan.slotIndex else none

/-- RESTART takes effect: the link rate and the eight counters keep their values (R163). Whether the line level below the
byte is waited for is not reset either (log 9). The key sample of the slot it ends may still follow at the same instant
(R164, log 27). -/
def restartTakesEffect (s : State) : State :=
  let t := resetPart .soft (resetLink s.link.rate s.link.counters s.link.lineHeld) s
  { t with scan.cutSlot := s.sampledSlot }

/-! ### Sleep and wake -/

/-- An enabled channel takes the pair its pins read and an accumulator of 0, and its next sample awaits the next tick; a
disabled one keeps its state (R105). -/
def resyncChannel (pins : QuadPair) (e : EncoderChannel) : EncoderChannel :=
  if e.enabled then { e with quad := pins, acc := 0, sampleDue := false } else e

/-- Wake: AWAKE with the WAKE class raised, every key record UP with its flag open, the scan at slot 0, the sweep stopped
and the enabled channels resynchronised (R31, R105, R136). -/
def wakePart (cause : WakeCause) (s : State) : State :=
  { s with
    power.state := .awake
    power.sweep := none
    keys.table := Vector.replicate 64 upRecord
    scan.slotIndex := 0
    scan.slotRunning := false
    encoders.e0 := resyncChannel s.pins.e0 s.encoders.e0
    encoders.e1 := resyncChannel s.pins.e1 s.encoders.e1
    notices.wake := some cause }

/-- Sleep entry: the lines are released and the slot in progress ends without a reading, the shown patterns become 0x0000,
the link-seen flag is cleared, the dispatcher is IDLE, and the sweep's first interval starts if key scanning is on (R133,
R134, R117). -/
def enterSleep (s : State) : State :=
  { s with
    power.state := .asleep
    power.linkSeen := false
    power.sweep := if s.scan.config.keyScanning then startTimer s.now sweepInterval else none
    scan.slotRunning := false
    scan.cutSlot := none
    lines := releasedLines
    display.shown := Vector.replicate 8 0x0000#16
    dispatch.phase := .idle }

/-- An abandoned sleep entry: AWAKE, link-seen clear, the dispatcher back to its requests, and WAKE raised (R132). -/
def abandonSleep (cause : WakeCause) (s : State) : State :=
  { s with
    power.state := .awake
    power.linkSeen := false
    dispatch.phase := restingPhase s.dispatch.requests s.dispatch.replies
    notices.wake := some cause }

end Sys2Proof.Machine
end

