-- ==== Sys2Proof/Machine/Flags.lean ====
section
/-!
DEFINITION. The conditions the part computes from its state: key counts, eligibility, pending and enabled classes, waiting
sources of the arbiter, and the quiet conditions of SLEEP and of sleep entry.
-/
namespace Sys2Proof.Machine

/-- Every key of the key state table is UP (R13, R130). -/
def State.allUp (s : State) : Bool :=
  allKeys.all fun k => (s.record k).phase == .up

/-- The BLOCKED keys in ascending key index (R50). -/
def State.blockedKeys (s : State) : List KeyIndex :=
  allKeys.filter fun k => (s.record k).phase == .blocked

/-- A channel has something to report: its delta is non-zero or its OVER flag is set (R102). -/
def EncoderChannel.hasReport (e : EncoderChannel) : Bool :=
  e.delta != 0 || e.overFlag

/-- A channel is eligible: it has something to report and its coalescing timer has expired (R102). -/
def EncoderChannel.eligible (e : EncoderChannel) : Bool :=
  e.hasReport && e.timer.isNone

/-- Some channel is eligible (R102). -/
def State.anyEligible (s : State) : Bool :=
  s.encoders.e0.eligible || s.encoders.e1.eligible

/-- Some count of the fault record is non-zero (R165). -/
def FaultRecord.pending (f : FaultRecord) : Bool :=
  f.ghostCount != 0 || f.rolloverCount != 0 || f.e0Count != 0 || f.e1Count != 0

/-- Whether a class is pending, masked or not (R165). -/
def State.classPending (s : State) : NoticeClass → Bool
  | .ready => s.notices.ready.isSome
  | .wake => s.notices.wake.isSome
  | .panelFault => s.notices.fault.pending
  | .keys => !s.queue.isEmpty
  | .encoder => s.anyEligible

/-- Whether a class is enabled: READY and WAKE always are (R165). -/
def ClassMask.enables (m : ClassMask) : NoticeClass → Bool
  | .ready => true
  | .wake => true
  | .panelFault => m.panelFault
  | .keys => m.keys
  | .encoder => m.encoder

/-- The five classes, highest priority first (R165). -/
def classOrder : List NoticeClass := [.ready, .wake, .panelFault, .keys, .encoder]

/-- Some class is pending, enabled or masked (R130). -/
def State.anyClassPending (s : State) : Bool :=
  classOrder.any s.classPending

/-- The enabled pending class of highest priority (R169). -/
def State.dueClass (s : State) : Option NoticeClass :=
  classOrder.find? fun c => s.classPending c && s.notices.mask.enables c

/-- The reply source of the arbiter waits (R147). -/
def State.replyWaits (s : State) : Bool :=
  !s.dispatch.replies.isEmpty

/-- The notice source of the arbiter waits (R147, R170). -/
def State.noticeWaits (s : State) : Bool :=
  s.notices.state == .running && s.notices.outstanding.any (fun e => e.transmit != .sent)

/-- The conditions of R130 under which SLEEP is accepted, once the SLEEP itself has left the request queue. -/
def State.quiet (s : State) : Bool :=
  s.allUp && s.chords.held.isEmpty && s.queue.isEmpty && s.notices.outstanding.isEmpty && !s.anyClassPending &&
    s.dispatch.requests.isEmpty

/-- Checks 1 to 3 of the sleep entry check, the first that applies giving the cause of the abandon (R132). -/
def State.sleepObstacle (s : State) : Option WakeCause :=
  if !s.dispatch.requests.isEmpty || s.power.linkSeen || !s.notices.outstanding.isEmpty then some .link
  else if !s.allUp || !s.chords.held.isEmpty || !s.queue.isEmpty || s.notices.fault.ghostCount != 0 ||
      s.notices.fault.rolloverCount != 0 then some .key
  else if s.anyEligible || s.notices.fault.e0Count != 0 || s.notices.fault.e1Count != 0 then some .encoder
  else none

/-- A channel is in the wake mask (R129). -/
def WakeMask.watches (m : WakeMask) : Channel → Bool
  | .e0 => m.e0
  | .e1 => m.e1

/-- A watched pin has changed: the channel is enabled and in the wake mask, and its pins read a pair that differs from its
quadrature state (R105, R135). -/
def State.pinChanged (s : State) (c : Channel) : Bool :=
  (s.channel c).enabled && s.power.mask.watches c && (s.pinsOf c != (s.channel c).quad)

end Sys2Proof.Machine
end

