-- ==== Sys2Proof/Machine/Messages.lean ====
section
/-!
DEFINITION. The byte layouts the part sends: value tables, frames with their check, queue entries, notice contents and
reply blocks (chapter "Message Formats", R139, R177). Every multi-byte field goes most significant byte first.
-/
namespace Sys2Proof.Machine

/-- The result codes (00, "Result codes"). -/
inductive ResultCode where
  | ok
  | badLength
  | range
  | keyActive
  | panelBusy
  | queueFull
  | unknownKind
  | conflict
  deriving DecidableEq, Repr

/-- A result code's byte (13, "Value tables"). -/
def ResultCode.byte : ResultCode → Byte
  | .ok => 0x00#8
  | .badLength => 0x01#8
  | .range => 0x02#8
  | .keyActive => 0x03#8
  | .panelBusy => 0x04#8
  | .queueFull => 0x05#8
  | .unknownKind => 0x06#8
  | .conflict => 0x07#8

/-- One byte of a count, an index or a length. -/
def natByte (n : Nat) : Byte := BitVec.ofNat 8 n

/-- A signed byte, two's complement (00, "Numbers"). -/
def intByte (i : Int) : Byte := BitVec.ofInt 8 i

/-- Two bytes, most significant first. -/
def wordBytes (w : BitVec 16) : List Byte :=
  [w.extractLsb' 8 8, w.extractLsb' 0 8]

/-- A bit of a byte of flags. -/
def flagBit (b : Bool) (n : Nat) : Byte :=
  if b then 1#8 <<< n else 0#8

/-- An off/on setting (R176). -/
def boolByte (b : Bool) : Byte := flagBit b 0

/-- A key index (00, "Key index"). -/
def keyByte (k : KeyIndex) : Byte := natByte k.val

/-- The key map flags (13, "Value tables"). -/
def mapFlags (e : KeyMapEntry) : Byte :=
  flagBit e.enabled 0 ||| flagBit e.repeats 1 ||| flagBit e.releaseReport 2 ||| flagBit e.holdReport 3

/-- Block reasons (13, "Value tables"). An absent reason cannot stand in a BLOCKED record (R18). -/
def reasonByte : Option BlockReason → Byte
  | some .rollover => 0x01#8
  | _ => 0x00#8

def channelByte : Channel → Byte
  | .e0 => 0x00#8
  | .e1 => 0x01#8

def powerByte : PowerState → Byte
  | .awake => 0x00#8
  | .sleepPending => 0x01#8
  | .asleep => 0x02#8

def noticeStateByte : NoticeState → Byte
  | .running => 0x00#8
  | .stalled => 0x01#8

def readyCauseByte : ReadyCause → Byte
  | .power => 0x00#8
  | .pin => 0x01#8
  | .soft => 0x02#8

def wakeCauseByte : WakeCause → Byte
  | .key => 0x00#8
  | .encoder => 0x01#8
  | .link => 0x02#8

/-- The kind of each class's notices (R165). -/
def NoticeClass.kind : NoticeClass → Byte
  | .ready => 0xA0#8
  | .wake => 0xA1#8
  | .panelFault => 0xA2#8
  | .keys => 0xA3#8
  | .encoder => 0xA4#8

/-! ### Frames -/

/-- The sum of some bytes modulo 256. -/
def byteSum (bytes : List Byte) : Byte :=
  bytes.foldr (· + ·) 0#8

/-- The body of a frame: kind, tag, payload (R139). -/
def Frame.body (f : Frame) : List Byte :=
  f.kind :: f.tag :: f.payload

/-- The check byte: length, body and check sum to 0x00 modulo 256 (R139). -/
def Frame.check (f : Frame) : Byte :=
  0#8 - (natByte f.body.length + byteSum f.body)

/-- The bytes of a frame on the link (R139). -/
def Frame.bytes (f : Frame) : List Byte :=
  leadByte :: natByte f.body.length :: (f.body ++ [f.check])

/-- The levels of one byte on the line: start bit low, eight data bits, least significant first, stop bit high (R137). -/
def lineBits (b : Byte) : List Bool :=
  false :: ((List.range 8).map fun n => b.getLsbD n) ++ [true]

/-- The levels TXD carries for the frame in progress, back to back (R145); with the transmitter IDLE it rests high and
carries none (R137, log 11). -/
def State.txdBits (s : State) : List Bool :=
  match s.link.tx with
  | none => []
  | some t => t.frame.bytes.flatMap lineBits

/-- The level of TXD at one bit time of the frame in progress, counted from its first start bit: the frame's bit, and high
past its last stop bit, between frames and while NRST is low (R137, R145). -/
def State.txdLevel (s : State) (bit : Nat) : Bool :=
  !s.pins.nrst || (s.txdBits[bit]?).getD true

/-- The bit rate of the link in bits a second (R137). -/
def LinkRate.bitsPerSecond : LinkRate → Nat
  | .b19200 => 19200
  | .b115200 => 115200

/-- The reject frame that answers a valid frame of unknown kind (R144). -/
def rejectFrame (f : Frame) : Frame :=
  { kind := rejectKind, tag := f.tag, payload := [ResultCode.unknownKind.byte, f.kind] }

/-! ### Notice contents -/

/-- A key event queue entry as a KEYS notice carries it (13, "Key event queue entries"). -/
def QueueEntry.bytes : QueueEntry → List Byte
  | .press code key time => 0x01#8 :: code :: keyByte key :: wordBytes time
  | .release code key time => 0x02#8 :: code :: keyByte key :: wordBytes time
  | .hold code key time => 0x03#8 :: code :: keyByte key :: wordBytes time
  | .repeated code key time count => 0x04#8 :: code :: keyByte key :: (wordBytes time ++ [natByte count])
  | .chord code slot time => 0x05#8 :: code :: natByte slot.val :: wordBytes time
  | .lost count => [0x0F#8, natByte count]

/-- The encoded size of an entry (R90). -/
def QueueEntry.size : QueueEntry → Nat
  | .press _ _ _ => 5
  | .release _ _ _ => 5
  | .hold _ _ _ => 5
  | .repeated _ _ _ _ => 6
  | .chord _ _ _ => 5
  | .lost _ => 2

/-- The six fields of the fault record (13, "Notice payloads"). -/
def FaultRecord.bytes (f : FaultRecord) : List Byte :=
  [natByte f.ghostCount, keyByte f.lastGhost, natByte f.rolloverCount, keyByte f.lastRollover, natByte f.e0Count,
   natByte f.e1Count]

/-- A channel report: the channel, flags with bit 0 for OVER, delta, position (13, "Notice payloads"). -/
def ChannelReport.bytes (r : ChannelReport) : List Byte :=
  channelByte r.channel :: flagBit r.overFlag 0 :: intByte r.delta :: wordBytes r.position

/-- The payload of a notice (13, "Notice payloads"). -/
def NoticeContent.bytes : NoticeContent → List Byte
  | .ready cause => [readyCauseByte cause]
  | .wake cause => [wakeCauseByte cause]
  | .panelFault record => record.bytes
  | .keys entries => entries.flatMap QueueEntry.bytes
  | .encoder reports => reports.flatMap ChannelReport.bytes

/-- The frame of an outstanding notice: its class kind, and its sequence number where a reply carries its tag (R169). -/
def OutstandingNotice.frame (n : OutstandingNotice) : Frame :=
  { kind := n.content.cls.kind, tag := n.seq, payload := n.content.bytes }

/-! ### Reply blocks -/

/-- What IDENTIFY answers after OK (R159). -/
def identifyFields : List Byte :=
  [0x24#8, 0x18#8, 0x01#8, 0x02#8, 0x08#8, 0x08#8, 0x08#8, 0x10#8, 0x03#8]

/-- The pending class set, in class bits (13, "Value tables"). -/
def State.pendingClassBits (s : State) : Byte :=
  flagBit (s.classPending .ready) 0 ||| flagBit (s.classPending .wake) 1 ||| flagBit (s.classPending .panelFault) 2 |||
    flagBit (s.classPending .keys) 3 ||| flagBit (s.classPending .encoder) 4

/-- The status block of GET_STATUS after its result (R160). -/
def State.statusFields (s : State) : List Byte :=
  [powerByte s.power.state, noticeStateByte s.notices.state, natByte s.notices.outstanding.length, s.pendingClassBits,
   natByte s.queue.length, natByte s.keys.downSet.length, natByte s.chords.held.length, natByte s.blockedKeys.length,
   boolByte s.display.testTimer.isSome] ++ wordBytes s.now

/-- One key map entry as GET_KEYMAP reports it (R35). -/
def State.mapFields (s : State) (k : KeyIndex) : List Byte :=
  [keyByte k, (s.mapEntry k).code, mapFlags (s.mapEntry k)]

/-- The repeat owner's key, or 0xFF when absent (R177). -/
def ownerByte : Option RepeatOwner → Byte
  | some o => keyByte o.key
  | none => 0xFF#8

/-- The key block of READ_KEYS after its result (R50). -/
def State.keyFields (s : State) : List Byte :=
  natByte s.keys.downSet.length :: s.keys.downSet.map keyByte ++
    natByte s.chords.held.length :: s.chords.held.map (fun h => keyByte h.key) ++
    ownerByte s.repeatHold.owner :: natByte s.blockedKeys.length ::
    (s.blockedKeys.take 8).flatMap fun k => [keyByte k, reasonByte (s.record k).blockReason]

/-- A chord slot as GET_CHORD reports it; an empty one has code 0 and no members (R70, R177). -/
def chordFields (slot : SlotIndex) : Option ChordSlot → List Byte
  | none => [natByte slot.val, 0x00#8, 0x00#8]
  | some c => natByte slot.val :: c.code :: natByte c.members.length :: c.members.map keyByte

/-- The channel record of READ_ENCODERS (13, "Channel record of READ_ENCODERS"). -/
def EncoderChannel.fields (e : EncoderChannel) : List Byte :=
  (flagBit e.enabled 0 ||| flagBit e.timer.isSome 1 ||| flagBit e.overFlag 2) :: natByte e.stepsPerDetent ::
    natByte (e.interval / 10) :: wordBytes e.position ++ [intByte e.delta]

/-- READ_DISPLAY's fields: the eight shown patterns, the test's remaining time (0 for OFF) and display enable (R127). -/
def State.displayFields (s : State) : List Byte :=
  allPositions.flatMap (fun p => wordBytes s.display.shown[p]) ++
    wordBytes (BitVec.ofNat 16 (timerRemaining s.display.testTimer s.now)) ++ [boolByte s.display.enable]

/-- The eight counters, in the order of R149. -/
def LinkCounters.fields (c : LinkCounters) : List Byte :=
  [c.framingErrors, c.lengthErrors, c.checkErrors, c.gapAborts, c.queueFull, c.framesDropped, c.unmatchedAcks,
   c.retransmissions].flatMap fun n => wordBytes (BitVec.ofNat 16 n)

end Sys2Proof.Machine
end

