-- ==== Sys2Proof/Machine/Operands.lean ====
section
/-!
DEFINITION. The payload readers of the requests: each makes the length check, then the range check, over the whole payload
before anything is applied (R157, R176), and answers the request's fields.
-/
namespace Sys2Proof.Machine

/-- What reading a payload gives: its fields, or the code of the check that failed. -/
abbrev Read (α : Type) := Except ResultCode α

/-- A byte that carries an off/on setting (R176). -/
def readBool (b : Byte) : Option Bool :=
  if b = 0x00#8 then some false else if b = 0x01#8 then some true else none

/-- A key index, 0 to 63. -/
def readKey (b : Byte) : Option KeyIndex :=
  if h : b.toNat < 64 then some ⟨b.toNat, h⟩ else none

/-- A chord slot number, 0 to 7. -/
def readSlot (b : Byte) : Option SlotIndex :=
  if h : b.toNat < 8 then some ⟨b.toNat, h⟩ else none

/-- A byte of flags with only the lowest `n` bits named (R176). -/
def readFlags (n : Nat) (b : Byte) : Option Byte :=
  if b.toNat < 2 ^ n then some b else none

/-- A value between two bounds, both included. -/
def readRange (lo hi : Nat) (b : Byte) : Option Nat :=
  if lo ≤ b.toNat ∧ b.toNat ≤ hi then some b.toNat else none

/-- Two bytes, most significant first (R177). -/
def readWord (hi lo : Byte) : BitVec 16 := hi ++ lo

/-- A missing value is a field out of range. -/
def orRange {α : Type} (v : Option α) : Read α :=
  match v with
  | some a => .ok a
  | none => .error .range

/-- A request that carries no fields (R49, R92, R127, R159, R160, R162). -/
def readNone : List Byte → Read Unit
  | [] => .ok ()
  | _ => .error .badLength

/-- SET_SCAN: seven settings (R11). -/
def readScan : List Byte → Read ScanConfig
  | [n, t, dp, dr, l, g, k] => orRange do
      let n ← readRange 1 8 n
      let t ← readRange 1 8 t
      let dp ← readRange 1 15 dp
      let dr ← readRange 1 15 dr
      let l ← readRange 2 8 l
      let g ← readBool g
      let k ← readBool k
      return { positions := n, slotUnits := t, dp := dp, dr := dr, limit := l, ghostFilter := g, keyScanning := k }
  | _ => .error .badLength

/-- One entry of SET_KEYMAP: key index, code, key map flags (R32). -/
def readMapEntry (k c f : Byte) : Option (KeyIndex × KeyMapEntry) := do
  let k ← readKey k
  let f ← readFlags 4 f
  return (k, { code := c, enabled := f.getLsbD 0, repeats := f.getLsbD 1, releaseReport := f.getLsbD 2,
               holdReport := f.getLsbD 3 })

/-- A payload as whole entries of three bytes, none where it ends inside an entry. -/
def chunks3 : List Byte → Option (List (Byte × Byte × Byte))
  | [] => some []
  | k :: c :: f :: rest => (chunks3 rest).map ((k, c, f) :: ·)
  | _ => none

/-- SET_KEYMAP: 1 to 8 entries (R32, checks 1 and 2). -/
def readKeymap (p : List Byte) : Read (List (KeyIndex × KeyMapEntry)) :=
  match chunks3 p with
  | none => .error .badLength
  | some raw =>
    if raw.length = 0 ∨ 8 < raw.length then .error .badLength
    else orRange (raw.mapM fun (k, c, f) => readMapEntry k c f)

/-- GET_KEYMAP: start 0 to 63, count 1 to 8, start plus count at most 64; the keys of the run (R35). -/
def readKeyRun : List Byte → Read (List KeyIndex)
  | [start, count] =>
    if start.toNat ≤ 63 ∧ 1 ≤ count.toNat ∧ count.toNat ≤ 8 ∧ start.toNat + count.toNat ≤ 64 then
      .ok (allKeys.filter fun k => start.toNat ≤ k.val ∧ k.val < start.toNat + count.toNat)
    else .error .range
  | _ => .error .badLength

/-- The fields of SET_CHORD: the slot, and its new record, absent for a member count of 0 (R67). -/
structure ChordRequest where
  slot   : SlotIndex
  record : Option ChordSlot
  deriving DecidableEq, Repr

/-- SET_CHORD: length 3 + member count, then the ranges (R67, checks 1 and 2). -/
def readChord : List Byte → Read ChordRequest
  | slot :: code :: count :: members =>
    if members.length ≠ count.toNat then .error .badLength
    else orRange do
      let slot ← readSlot slot
      let keys ← members.mapM readKey
      if count.toNat = 1 ∨ 4 < count.toNat ∨ ¬ keys.Nodup then none
      else return { slot := slot, record := if keys.isEmpty then none else some { code := code, members := keys } }
  | _ => .error .badLength

/-- GET_CHORD: a slot number (R70). -/
def readChordSlot : List Byte → Read SlotIndex
  | [slot] => orRange (readSlot slot)
  | _ => .error .badLength

/-- The four settings of SET_TIMING, in milliseconds. -/
structure TimingRequest where
  repeatDelay  : Nat
  repeatPeriod : Nat
  holdTime     : Nat
  chordWindow  : Nat
  deriving DecidableEq, Repr

/-- SET_TIMING: the fields carry steps (R71, R81). -/
def readTiming : List Byte → Read TimingRequest
  | [delay, period, hold, window] => orRange do
      let delay ← readRange 10 200 delay
      let period ← readRange 2 50 period
      let hold ← readRange 2 50 hold
      let window ← readRange 1 25 window
      return { repeatDelay := delay * 10, repeatPeriod := period * 10, holdTime := hold * 100,
               chordWindow := window * 10 }
  | _ => .error .badLength

/-- The fields of SET_ENCODERS; the interval in milliseconds. -/
structure EncoderRequest where
  channel        : Channel
  enabled        : Bool
  stepsPerDetent : Nat
  interval       : Nat
  deriving DecidableEq, Repr

/-- A channel number, 0 or 1 (R106). -/
def readChannel (b : Byte) : Option Channel :=
  if b = 0x00#8 then some .e0 else if b = 0x01#8 then some .e1 else none

/-- Steps per detent: 1, 2 or 4 (R106). -/
def readSteps (b : Byte) : Option Nat :=
  if b.toNat = 1 ∨ b.toNat = 2 ∨ b.toNat = 4 then some b.toNat else none

/-- SET_ENCODERS (R106). -/
def readEncoderSettings : List Byte → Read EncoderRequest
  | [channel, enabled, steps, interval] => orRange do
      let channel ← readChannel channel
      let enabled ← readBool enabled
      let steps ← readSteps steps
      let interval ← readRange 1 50 interval
      return { channel := channel, enabled := enabled, stepsPerDetent := steps, interval := interval * 10 }
  | _ => .error .badLength

/-- A request that carries one off/on field: READ_ENCODERS and GET_LINK_STATS (R108, R150). -/
def readClear : List Byte → Read Bool
  | [clear] => orRange (readBool clear)
  | _ => .error .badLength

/-- The length a display record's mode byte calls for; a byte that holds no mode takes the length of a BLANK record
(R119, R176). -/
def recordLength (mode : Byte) : Nat :=
  if mode = 0x01#8 ∨ mode = 0x02#8 then 4 else 2

/-- The payload after the count, walked record by record; none where it ends inside a record or goes on after the last
(R119, R176). -/
def splitRecords : Nat → List Byte → Option (List (List Byte))
  | 0, [] => some []
  | 0, _ :: _ => none
  | n + 1, bytes =>
    match bytes with
    | [] => none
    | mode :: _ =>
      if bytes.length < recordLength mode then none
      else (splitRecords n (bytes.drop (recordLength mode))).map (bytes.take (recordLength mode) :: ·)

/-- A bank (R119, R121). -/
def readBank (b : Byte) : Option Bank :=
  if b = 0x00#8 then some .a else if b = 0x01#8 then some .b else none

/-- A record's mode with the fields of its mode (R119, 13 "Display record"). -/
def readMode (mode : Byte) (fields : List Byte) : Option DisplayMode :=
  match fields with
  | [] => if mode = 0x00#8 then some .blank else none
  | [x, y] =>
    if mode = 0x01#8 then do
      let bank ← readBank x
      let code ← readKey y
      return .glyph bank code
    else if mode = 0x02#8 then some (.raw (readWord x y))
    else none
  | _ => none

/-- One display record: mode, attributes, then the fields of the mode (R119, 13 "Display record"). -/
def readRecord : List Byte → Option DisplayRecord
  | mode :: attributes :: fields => do
      let a ← readFlags 3 attributes
      let m ← readMode mode fields
      return { mode := m, point := a.getLsbD 0, blink := a.getLsbD 1, dim := a.getLsbD 2 }
  | _ => none

/-- WRITE_DISPLAY: start, count, records; the start and the records read (R119). -/
def readDisplayWrite : List Byte → Read (Nat × List DisplayRecord)
  | start :: count :: bytes =>
    match splitRecords count.toNat bytes with
    | none => .error .badLength
    | some raw =>
      if start.toNat ≤ 7 ∧ 1 ≤ count.toNat ∧ count.toNat ≤ 8 ∧ start.toNat + count.toNat ≤ 8 then
        orRange ((raw.mapM readRecord).map fun records => (start.toNat, records))
      else .error .range
  | _ => .error .badLength

/-- Pairs of bytes as patterns; none for an odd number of bytes. -/
def readPatterns : List Byte → Option (List Pattern)
  | [] => some []
  | hi :: lo :: rest => (readPatterns rest).map (readWord hi lo :: ·)
  | _ => none

/-- SET_GLYPHS: bank, start, count, patterns; length 3 + 2 × count (R121, R176). -/
def readGlyphs : List Byte → Read (Bank × Nat × List Pattern)
  | bank :: start :: count :: bytes =>
    if bytes.length ≠ 2 * count.toNat then .error .badLength
    else
      if start.toNat ≤ 63 ∧ 1 ≤ count.toNat ∧ count.toNat ≤ 8 ∧ start.toNat + count.toNat ≤ 64 then
        orRange do
          let bank ← readBank bank
          let patterns ← readPatterns bytes
          return (bank, start.toNat, patterns)
      else .error .range
  | _ => .error .badLength

/-- The three display settings of SET_DISPLAY; the half-period in units of 125 ms. -/
structure DisplayRequest where
  enable     : Bool
  brightness : Nat
  blinkHalf  : Nat
  deriving DecidableEq, Repr

/-- SET_DISPLAY (R123). -/
def readDisplaySettings : List Byte → Read DisplayRequest
  | [enable, brightness, half] => orRange do
      let enable ← readBool enable
      let brightness ← readRange 1 16 brightness
      let half ← readRange 0 8 half
      return { enable := enable, brightness := brightness, blinkHalf := half }
  | _ => .error .badLength

/-- DISPLAY_TEST: the duration in milliseconds (R125). -/
def readTestDuration : List Byte → Read Nat
  | [duration] => orRange ((readRange 0 50 duration).map (· * 100))
  | _ => .error .badLength

/-- SLEEP: the wake mask (R130). -/
def readWakeMask : List Byte → Read WakeMask
  | [mask] => orRange ((readFlags 3 mask).map fun m =>
      { keys := m.getLsbD 0, e0 := m.getLsbD 1, e1 := m.getLsbD 2 })
  | _ => .error .badLength

/-- The three settings of SET_NOTICES; the timeout in milliseconds. -/
structure NoticeRequest where
  mask    : ClassMask
  window  : Nat
  timeout : Nat
  deriving DecidableEq, Repr

/-- The class mask of SET_NOTICES: bits 2 to 4 alone may be set (R175, 13 "Value tables"). -/
def readClassMask (b : Byte) : Option ClassMask :=
  if b &&& 0xE3#8 = 0#8 then
    some { panelFault := b.getLsbD 2, keys := b.getLsbD 3, encoder := b.getLsbD 4 }
  else none

/-- SET_NOTICES (R175). -/
def readNoticeSettings : List Byte → Read NoticeRequest
  | [mask, window, timeout] => orRange do
      let mask ← readClassMask mask
      let window ← readRange 1 3 window
      let timeout ← readRange 2 100 timeout
      return { mask := mask, window := window, timeout := timeout * 10 }
  | _ => .error .badLength

end Sys2Proof.Machine
end

