-- ==== Sys2Proof/Machine/Dispatcher.lean ====
section
/-!
DEFINITION. The request dispatcher's shared operations, by which every request is taken, checked, applied and answered
(R156 to R158).
-/
namespace Sys2Proof.Machine

/-- The dispatcher may take a request: it is IDLE or in WAIT_REPLY_SPACE, the power state is AWAKE and the reply list has
a free place (R156, R158). -/
def State.canTake (s : State) : Bool :=
  (s.dispatch.phase == .idle || s.dispatch.phase == .waitReplySpace) && s.power.state == .awake &&
    decide (s.dispatch.replies.length < replyCapacity)

/-- The oldest request, if the dispatcher may take it and it is of the given kind, with the state it has then left
(R157). -/
def takeRequest (kind : Byte) (s : State) : Option (Frame × State) :=
  match s.dispatch.requests with
  | r :: rest =>
    if s.canTake ∧ r.kind = kind then some (r, { s with dispatch.requests := rest }) else none
  | [] => none

/-- The dispatcher executes the oldest request if it is of the given kind; otherwise nothing is executed (R157, log 1). -/
def serve (kind : Byte) (execute : Frame → State → State) (s : State) : State :=
  match takeRequest kind s with
  | some (r, t) => execute r t
  | none => s

/-- A request that completes at execution: a failed check is answered with its code alone and changes nothing else; a
request that passes every check has its effect, and is answered OK with the fields read (R153, R157). -/
def answer {α : Type} (fields : Read α) (effect : α → State → State) (reply : α → State → List Byte) (r : Frame)
    (s : State) : State :=
  match fields with
  | .error code => finishRequest r [code.byte] s
  | .ok a => finishRequest r (ResultCode.ok.byte :: reply a s) (effect a s)

/-- No field follows OK. -/
def noFields {α : Type} (_ : α) (_ : State) : List Byte := []

/-- The request changes nothing but its reply. -/
def noEffect {α : Type} (_ : α) (s : State) : State := s

end Sys2Proof.Machine
end

