-- ==== Sys2Proof/Machine/Display.lean ====
section
/-!
DEFINITION. The display composer: composition of a slot, the blink and test timers, and the display requests (R110 to R128).
-/
namespace Sys2Proof.Machine

/-! ### Composition of one slot (R115 to R117) -/

/-- An entry of a glyph bank (R111). -/
def DisplayBlock.glyph (d : DisplayBlock) (bank : Bank) (code : Fin 64) : Pattern :=
  match bank with
  | .a => d.bankA[code]
  | .b => d.bankB[code]

/-- The point flag sets S14 in addition to what the pattern holds (R115). -/
def withPoint (point : Bool) (p : Pattern) : Pattern :=
  if point then p ||| 0x4000#16 else p

/-- What a record's mode shows (R115, the last three cases). -/
def DisplayBlock.modePattern (d : DisplayBlock) (r : DisplayRecord) : Pattern :=
  match r.mode with
  | .blank => 0x0000#16
  | .glyph bank code => withPoint r.point (d.glyph bank code)
  | .raw pattern => withPoint r.point pattern

/-- The pattern composed for a position at its slot start (R115). -/
def DisplayBlock.compose (d : DisplayBlock) (p : Position) : Pattern :=
  if !d.enable then 0x0000#16
  else if d.testTimer.isSome then 0xFFFF#16
  else if d.buffer[p].blink && !d.blinkOn then 0x0000#16
  else d.modePattern d.buffer[p]

/-- The lit fraction of a position in sixteenths (R116). -/
def DisplayBlock.litSixteenths (d : DisplayBlock) (p : Position) : Nat :=
  if d.testTimer.isSome then 16
  else if d.buffer[p].dim then (d.brightness + 1) / 2
  else d.brightness

/-! ### Timers -/

/-- BLINK_TIMER_EXPIRY: the phase toggles and the timer starts again with the half-period in force (R113). -/
def expireBlink (s : State) : State :=
  if timerDue s.display.blinkTimer s.now then
    { s with
      display.blinkOn := !s.display.blinkOn
      display.blinkTimer := startTimer s.now (s.display.blinkHalf * blinkUnit) }
  else s

/-- BLINK_TIMER_EXPIRY (R113). -/
def execBlinkTimerExpiry (s : State) : Result := whenLive expireBlink s

/-- TEST_TIMER_EXPIRY: the display test becomes OFF (R114). -/
def expireTest (s : State) : State :=
  if timerDue s.display.testTimer s.now then { s with display.testTimer := none } else s

/-- TEST_TIMER_EXPIRY (R114). -/
def execTestTimerExpiry (s : State) : Result := whenLive expireTest s

/-! ### Requests -/

/-- Record i of a run replaces the record of position start + i (R120). -/
def writeRecords (start : Nat) : List DisplayRecord → Vector DisplayRecord 8 → Vector DisplayRecord 8
  | [], v => v
  | r :: rest, v => writeRecords (start + 1) rest (v.setIfInBounds start r)

/-- WRITE_DISPLAY (R119, R120). -/
def execWriteDisplay (s : State) : Result :=
  whenServing (serve 0x0E#8 fun r => answer (readDisplayWrite r.payload)
    (fun w s => { s with display.buffer := writeRecords w.1 w.2 s.display.buffer }) noFields r) s

/-- Pattern i of a run becomes the entry at code start + i (R122). -/
def writePatterns (start : Nat) : List Pattern → Vector Pattern 64 → Vector Pattern 64
  | [], v => v
  | p :: rest, v => writePatterns (start + 1) rest (v.setIfInBounds start p)

/-- The named bank takes the patterns of the run (R122). -/
def setGlyphs (bank : Bank) (start : Nat) (patterns : List Pattern) (s : State) : State :=
  match bank with
  | .a => { s with display.bankA := writePatterns start patterns s.display.bankA }
  | .b => { s with display.bankB := writePatterns start patterns s.display.bankB }

/-- SET_GLYPHS (R121, R122). -/
def execSetGlyphs (s : State) : Result :=
  whenServing (serve 0x0F#8 fun r => answer (readGlyphs r.payload) (fun g => setGlyphs g.1 g.2.1 g.2.2) noFields r) s

/-- The blink phase and timer under a change of the half-period (R124). -/
def blinkAfter (now : Time) (before after : Nat) (on : Bool) (timer : Timer) : Bool × Timer :=
  if after = 0 then (true, none)
  else if before = 0 then (true, startTimer now (after * blinkUnit))
  else (on, timer)

/-- The three settings come into force together (R124). -/
def setDisplay (q : DisplayRequest) (s : State) : State :=
  let blink := blinkAfter s.now s.display.blinkHalf q.blinkHalf s.display.blinkOn s.display.blinkTimer
  { s with
    display.enable := q.enable
    display.brightness := q.brightness
    display.blinkHalf := q.blinkHalf
    display.blinkOn := blink.1
    display.blinkTimer := blink.2 }

/-- SET_DISPLAY (R123, R124). -/
def execSetDisplay (s : State) : Result :=
  whenServing (serve 0x10#8 fun r => answer (readDisplaySettings r.payload) setDisplay noFields r) s

/-- DISPLAY_TEST with a duration of 0 ends the test; any other starts it afresh (R125). -/
def runTest (ms : Nat) (s : State) : State :=
  { s with display.testTimer := if ms = 0 then none else startTimer s.now ms }

/-- DISPLAY_TEST (R125). -/
def execDisplayTest (s : State) : Result :=
  whenServing (serve 0x11#8 fun r => answer (readTestDuration r.payload) runTest noFields r) s

/-- READ_DISPLAY (R127). -/
def execReadDisplay (s : State) : Result :=
  whenServing (serve 0x12#8 fun r => answer (readNone r.payload) noEffect (fun _ s => s.displayFields) r) s

end Sys2Proof.Machine
end

