-- ==== Sys2Proof/Machine/Encoders.lean ====
section
/-!
DEFINITION. The encoder unit: samples, steps, detents and illegal transitions, the coalescing timers, the pin watch while
asleep, and the encoder requests (R95 to R109).
-/
namespace Sys2Proof.Machine

/-- The pair one step forward in the sequence 00, 01, 11, 10, 00 (R97). -/
def forwardPair (q : QuadPair) : QuadPair :=
  if q = 0#2 then 1#2 else if q = 1#2 then 3#2 else if q = 3#2 then 2#2 else 0#2

/-- How a sample classes the new pair (R97). -/
inductive SampleClass where
  | same
  | forward
  | backward
  | double
  deriving DecidableEq, Repr

/-- The class of a new pair against the quadrature state (R97). -/
def classify (state new : QuadPair) : SampleClass :=
  if new = state then .same
  else if new = forwardPair state then .forward
  else if state = forwardPair new then .backward
  else .double

/-- A forward detent: the position rises by 1, wrapping, and the delta rises by 1 or, at +127, stays and sets OVER (R100,
R101). -/
def forwardDetent (e : EncoderChannel) : EncoderChannel :=
  if e.delta = 127 then { e with position := e.position + 1#16, overFlag := true }
  else { e with position := e.position + 1#16, delta := e.delta + 1 }

/-- A backward detent: the position falls by 1, wrapping, and the delta falls by 1 or, at -127, stays and sets OVER (R100,
R101). -/
def backwardDetent (e : EncoderChannel) : EncoderChannel :=
  if e.delta = -127 then { e with position := e.position - 1#16, overFlag := true }
  else { e with position := e.position - 1#16, delta := e.delta - 1 }

/-- The accumulator takes a new value; at plus or minus the steps per detent it returns to 0 and one detent is counted
(R99). -/
def countSteps (acc : Int) (e : EncoderChannel) : EncoderChannel :=
  if acc = e.stepsPerDetent then forwardDetent { e with acc := 0 }
  else if acc = -e.stepsPerDetent then backwardDetent { e with acc := 0 }
  else { e with acc := acc }

/-- The channel after a sample: one step in either direction is counted, a double change only takes the new pair (R97 to
R99). -/
def sampleChannel (new : QuadPair) (e : EncoderChannel) : EncoderChannel :=
  match classify e.quad new with
  | .same => e
  | .forward => countSteps (e.acc + 1) { e with quad := new }
  | .backward => countSteps (e.acc - 1) { e with quad := new }
  | .double => { e with quad := new }

/-- The channel's fault count rises by 1 (R98). -/
def countEncoderFault (c : Channel) (f : FaultRecord) : FaultRecord :=
  match c with
  | .e0 => { f with e0Count := satInc 255 f.e0Count }
  | .e1 => { f with e1Count := satInc 255 f.e1Count }

/-- The channel's pins take the levels a sample presents (log 3). -/
def presentPair (c : Channel) (p : QuadPair) (s : State) : State :=
  match c with
  | .e0 => { s with pins.e0 := p }
  | .e1 => { s with pins.e1 := p }

/-- A sample of one channel, with which its tick's sample has been taken: a double change is counted as a fault (R96 to
R98). -/
def takeSample (c : Channel) (s : State) : State :=
  let t := s.setChannel c { sampleChannel (s.pinsOf c) (s.channel c) with sampleDue := false }
  if classify (s.channel c).quad (s.pinsOf c) = .double then
    { t with notices.fault := countEncoderFault c s.notices.fault }
  else t

/-- A channel takes a sample: it is enabled, the part is AWAKE or SLEEP_PENDING, and a tick has come whose sample it has
not taken yet (R96, R104). -/
def State.sampleAwaits (s : State) (c : Channel) : Bool :=
  (s.channel c).enabled && (s.channel c).sampleDue && s.power.state != .asleep

/-- ENCODER_SAMPLE: an enabled channel samples its pins once at each tick, the first time at the first tick after a reset,
a wake or its enabling (R96, R104, R105). -/
def execEncoderSample (c : Channel) (pins : QuadPair) (s : State) : Result :=
  whenLive (fun s =>
    let t := presentPair c pins s
    if t.sampleAwaits c then takeSample c t else t) s

/-- A channel's coalescing timer expires. While ASLEEP, on a channel with something to report, it wakes the part whatever
the mask (R102, R105, R135). -/
def expireCoalescing (c : Channel) (s : State) : State :=
  let t := s.setChannel c { s.channel c with timer := none }
  if s.power.state = .asleep ∧ (s.channel c).hasReport then wakePart .encoder t else t

/-- COALESCING_TIMER_EXPIRY (R102). -/
def execCoalescingTimerExpiry (c : Channel) (pins : EncoderPins) (s : State) : Result :=
  whenLive (fun s =>
    let t := presentEncoderPins pins s
    if timerDue (t.channel c).timer t.now then expireCoalescing c t else t) s

/-- ENCODER_PIN_CHANGE: while ASLEEP, a change of a watched channel's pins wakes the part and is counted as nothing (R105,
R135). -/
def execEncoderPinChange (pins : EncoderPins) (s : State) : Result :=
  whenLive (fun s =>
    let t := presentEncoderPins pins s
    if t.power.state = .asleep ∧ (t.pinChanged .e0 || t.pinChanged .e1) then wakePart .encoder t else t) s

/-- The channel under an accepted SET_ENCODERS: a change of the steps per detent clears the accumulator, a change from
disabled to enabled resynchronises to the pins, a channel that is off awaits no sample, and a running timer keeps its
length (R104, R107). -/
def configureChannel (pins : QuadPair) (q : EncoderRequest) (e : EncoderChannel) : EncoderChannel :=
  let t := { e with
    enabled := q.enabled
    stepsPerDetent := q.stepsPerDetent
    interval := q.interval
    sampleDue := q.enabled && e.sampleDue
    acc := if q.stepsPerDetent = e.stepsPerDetent then e.acc else 0 }
  if q.enabled && !e.enabled then { t with quad := pins, acc := 0, sampleDue := false } else t

/-- The named channel is configured; the other is not touched (R107). -/
def setEncoders (q : EncoderRequest) (s : State) : State :=
  s.setChannel q.channel (configureChannel (s.pinsOf q.channel) q (s.channel q.channel))

/-- SET_ENCODERS (R106, R107). -/
def execSetEncoders (pins : EncoderPins) (s : State) : Result :=
  whenServing (fun s => serve 0x0C#8 (fun r => answer (readEncoderSettings r.payload) setEncoders noFields r)
    (presentEncoderPins pins s)) s

/-- A reported or cleared channel: its delta is 0 and OVER is clear (R103, R108). -/
def clearReport (e : EncoderChannel) : EncoderChannel := { e with delta := 0, overFlag := false }

/-- READ_ENCODERS with its clear flag on clears both channels' deltas and OVER flags (R108). -/
def clearEncoders (clear : Bool) (s : State) : State :=
  if clear then
    { s with encoders.e0 := clearReport s.encoders.e0, encoders.e1 := clearReport s.encoders.e1 }
  else s

/-- READ_ENCODERS: the reply is made up before the clear (R108). -/
def execReadEncoders (s : State) : Result :=
  whenServing (serve 0x0D#8 fun r => answer (readClear r.payload) clearEncoders
    (fun _ s => s.encoders.e0.fields ++ s.encoders.e1.fields) r) s

end Sys2Proof.Machine
end

