-- ==== Sys2Proof/Machine/KeyEvents.lean ====
section
/-!
DEFINITION. The key path as shared operations: the append rule of the key event queue, REPEAT merging, the handing on of a
PRESS, flush and chord completion, press admission, release, and the debounce step.
-/
namespace Sys2Proof.Machine

/-! ### Key event queue (R83 to R90) -/

/-- The append rule (R86): an event is appended while the queue holds fewer than 15 entries; from 15 on it is discarded
into the newest entry if that is a LOST marker, and into a new marker otherwise. A queue of 16 whose newest entry is an
event contradicts R83; nothing is appended to it (log 19). -/
def appendEvent (e : QueueEntry) (q : List QueueEntry) : List QueueEntry :=
  if q.length + 1 < queueCapacity then q ++ [e]
  else
    match q.getLast? with
    | some (.lost n) => q.dropLast ++ [.lost (satInc 255 n)]
    | _ => if q.length < queueCapacity then q ++ [.lost 1] else q

/-- The queue with the REPEAT record of key `k` raised by 1, at most to 255; absent if there is none (R76, R88). -/
def raiseRepeat (k : KeyIndex) : List QueueEntry → Option (List QueueEntry)
  | [] => none
  | .repeated code key time count :: rest =>
    if key = k then some (.repeated code key time (satInc 255 count) :: rest)
    else (raiseRepeat k rest).map (.repeated code key time count :: ·)
  | e :: rest => (raiseRepeat k rest).map (e :: ·)

/-- A REPEAT merges into its key's record, or passes through the append rule as a new record with count 1 (R76). -/
def handRepeat (code : Byte) (k : KeyIndex) (time : Time) (q : List QueueEntry) : List QueueEntry :=
  match raiseRepeat k q with
  | some q' => q'
  | none => appendEvent (.repeated code k time 1) q

/-- An event is handed to the key event queue (R85). -/
def State.handEvent (e : QueueEntry) (s : State) : State :=
  { s with queue := appendEvent e s.queue }

/-! ### Repeat and hold begin with a PRESS (R73, R77) -/

/-- A key with the repeat flag becomes the repeat owner in phase DELAY, in place of any other (R73). -/
def beginRepeat (k : KeyIndex) (s : State) : State :=
  if (s.mapEntry k).repeats then
    { s with
      repeatHold.owner := some { key := k, phase := .delay }
      repeatHold.timer := startTimer s.now s.repeatHold.repeatDelay }
  else s

/-- A key with hold-report starts its hold timer (R77). -/
def beginHold (k : KeyIndex) (s : State) : State :=
  if (s.mapEntry k).holdReport then s.setHoldTimer k (startTimer s.now s.repeatHold.holdTime) else s

/-- A PRESS is handed on for a key with its admission time, and repeat and hold begin, whatever the queue did with the
event (R43, R59, R73, R77). -/
def handPress (k : KeyIndex) (time : Time) (s : State) : State :=
  beginHold k (beginRepeat k (s.handEvent (.press (s.mapEntry k).code k time)))

/-! ### Chord matcher (R52 to R63) -/

/-- The held list's key indices, in order: the set H of R57. -/
def State.heldKeys (s : State) : List KeyIndex :=
  s.chords.held.map HeldPress.key

/-- Every key of the first list is in the second (R53). -/
def keysWithin (h m : List KeyIndex) : Bool :=
  h.all fun k => m.contains k

/-- Two lists hold the same keys (R53). -/
def sameKeys (h m : List KeyIndex) : Bool :=
  keysWithin h m && keysWithin m h

/-- The first list is strictly contained in the second (R53). -/
def strictlyWithin (h m : List KeyIndex) : Bool :=
  keysWithin h m && !keysWithin m h

/-- The occupied slots with their numbers, in ascending order (R52). -/
def ChordBlock.occupied (c : ChordBlock) : List (SlotIndex × ChordSlot) :=
  (List.finRange 8).filterMap fun i => c.slots[i].map fun r => (i, r)

/-- A key is a member key while an occupied slot's member list holds it (R53). -/
def State.isMember (s : State) (k : KeyIndex) : Bool :=
  s.chords.occupied.any fun r => r.2.members.contains k

/-- The slot whose member set equals the held set (R57, R63). -/
def State.equalSlot (s : State) : Option (SlotIndex × ChordSlot) :=
  s.chords.occupied.find? fun r => sameKeys s.heldKeys r.2.members

/-- A flush: every held press, oldest first, is handed on as a PRESS with its admission time, and the matcher becomes IDLE
(R59). -/
def flushHeld (s : State) : State :=
  let t := s.chords.held.foldl (fun s h => handPress h.key h.time s) s
  { t with chords.held := [], chords.window := none }

/-- Set the chorded flag of a key (R58). -/
def markChorded (s : State) (k : KeyIndex) : State :=
  s.setRecord k { s.record k with chorded := true }

/-- The time of the newest entry of the held list (R58). -/
def State.newestHeld (s : State) : Time :=
  (s.chords.held.getLast?.map HeldPress.time).getD 0#16

/-- The chord of a slot completes: a CHORD event with the newest held admission's time, the chorded flag on every held
key, and the matcher IDLE (R58). -/
def completeChord (slot : SlotIndex) (record : ChordSlot) (s : State) : State :=
  let t := s.heldKeys.foldl markChorded (s.handEvent (.chord record.code slot s.newestHeld))
  { t with chords.held := [], chords.window := none }

/-- What the matcher decides once a member key has joined the held list (R57). -/
def decideChord (s : State) : State :=
  let slots := s.chords.occupied.map fun r => r.2.members
  match s.equalSlot with
  | some (slot, record) =>
    if slots.any (strictlyWithin s.heldKeys) then s else completeChord slot record s
  | none => if slots.any (keysWithin s.heldKeys) then s else flushHeld s

/-- A member key is handed to the matcher: it joins the held list, starts the chord window if the matcher was IDLE, and
the outcome is decided (R55, R56). -/
def admitMember (k : KeyIndex) (s : State) : State :=
  decideChord
    { s with
      chords.held := s.chords.held ++ [{ key := k, time := s.now }]
      chords.window :=
        if s.chords.held.isEmpty then startTimer s.now s.repeatHold.chordWindow else s.chords.window }

/-- The chord window's expiry settles the held list: the chord equal to it completes, or it is flushed (R63). -/
def expireWindow (s : State) : State :=
  match s.equalSlot with
  | some (slot, record) => completeChord slot record s
  | none => flushHeld s

/-! ### Press admission (R36 to R47) -/

/-- The contact flag of a key reads closed. -/
def State.closed (s : State) (k : KeyIndex) : Bool := (s.record k).contact

/-- The ghost check: some rectangle's three other corners have closed contact flags (R37). -/
def State.isGhost (s : State) (k : KeyIndex) : Bool :=
  allPositions.any fun p' => p' != keyPosition k && allLines.any fun l' => l' != keyLine k &&
    s.closed (keyAt (keyPosition k) l') && s.closed (keyAt p' (keyLine k)) && s.closed (keyAt p' l')

/-- A refused press: BLOCKED with its reason and count 0 (R39, R42). -/
def blockKey (k : KeyIndex) (reason : BlockReason) (s : State) : State :=
  s.setRecord k { s.record k with phase := .blocked, count := 0, blockReason := some reason }

/-- The fault record counts a ghost (R47). -/
def countGhost (k : KeyIndex) (s : State) : State :=
  { s with
    notices.fault.ghostCount := satInc 255 s.notices.fault.ghostCount
    notices.fault.lastGhost := k }

/-- The fault record counts a rollover (R47). -/
def countRollover (k : KeyIndex) (s : State) : State :=
  { s with
    notices.fault.rolloverCount := satInc 255 s.notices.fault.rolloverCount
    notices.fault.lastRollover := k }

/-- An admitted key: DOWN with count 0, its admission time present, at the end of the down-set (R43). -/
def takeIntoDownSet (k : KeyIndex) (s : State) : State :=
  let t := s.setRecord k { s.record k with phase := .down, count := 0, admission := some s.now }
  { t with keys.downSet := s.keys.downSet ++ [k] }

/-- Admission: a member key goes to the chord matcher; any other key first flushes a held list, and its PRESS is handed on
(R43, R60). -/
def admitKey (k : KeyIndex) (s : State) : State :=
  let t := takeIntoDownSet k s
  if t.isMember k then admitMember k t
  else handPress k t.now (if t.chords.held.isEmpty then t else flushHeld t)

/-- Press admission: the ghost check if the filter is on, the rollover check, admission (R36, R40). -/
def pressAdmission (k : KeyIndex) (s : State) : State :=
  if s.scan.config.ghostFilter && s.isGhost k then countGhost k (blockKey k .ghost s)
  else if s.scan.config.limit ≤ s.keys.downSet.length then countRollover k (blockKey k .rollover s)
  else admitKey k s

/-! ### Release confirmation (R27, R28) -/

/-- The key becomes UP, loses its admission time and leaves the down-set (R27). -/
def leaveDownSet (k : KeyIndex) (s : State) : State :=
  let t := s.setRecord k { s.record k with phase := .up, count := 0, admission := none }
  { t with keys.downSet := s.keys.downSet.erase k }

/-- Steps 2 and 3 of the release path: a chorded key's flag is cleared in silence; any other key queues its RELEASE if its
map entry asks for one (R28, R29). -/
def reportRelease (k : KeyIndex) (s : State) : State :=
  if (s.record k).chorded then s.setRecord k { s.record k with chorded := false }
  else if (s.mapEntry k).releaseReport then s.handEvent (.release (s.mapEntry k).code k s.now)
  else s

/-- Step 4 of the release path: the key's repeat ownership ends and its hold timer is cancelled (R28, R75, R78). -/
def endRepeatHold (k : KeyIndex) (s : State) : State :=
  let t := if s.repeatHold.owner.map RepeatOwner.key = some k then
    { s with repeatHold.owner := none, repeatHold.timer := none } else s
  t.setHoldTimer k none

/-- Release confirmation with the whole release path (R27, R28). -/
def releaseKey (k : KeyIndex) (s : State) : State :=
  let t := leaveDownSet k s
  let t := if t.heldKeys.contains k then flushHeld t else t
  endRepeatHold k (reportRelease k t)

/-! ### The debounce machine (R19 to R25) -/

/-- Set a key's state and count. -/
def setPhase (k : KeyIndex) (phase : KeyPhase) (count : Nat) (s : State) : State :=
  s.setRecord k { s.record k with phase := phase, count := count }

/-- A run of closed samples has reached `count`: the press is confirmed when it equals Dp (R20, R21). -/
def closedRun (k : KeyIndex) (count : Nat) (s : State) : State :=
  if count = s.scan.config.dp then pressAdmission k s else setPhase k .making count s

/-- A run of open samples has reached `count`: the release is confirmed when it equals Dr (R22, R23). -/
def openRun (k : KeyIndex) (count : Nat) (s : State) : State :=
  if count = s.scan.config.dr then releaseKey k s else setPhase k .breaking count s

/-- A BLOCKED key's open samples have reached `count`: the silent exit when it equals Dr (R24). -/
def blockedRun (k : KeyIndex) (count : Nat) (s : State) : State :=
  if count = s.scan.config.dr then
    s.setRecord k { s.record k with phase := .up, count := 0, blockReason := none }
  else setPhase k .blocked count s

/-- The debounce step of one key for the contact flag its position's sample left (R19 to R25). -/
def debounceStep (k : KeyIndex) (s : State) : State :=
  let r := s.record k
  if r.phase = .blocked then
    if r.contact then setPhase k .blocked 0 s else blockedRun k (r.count + 1) s
  else if !(s.mapEntry k).enabled then s
  else
    match r.phase with
    | .up => if r.contact then closedRun k 1 s else setPhase k .up 0 s
    | .making => if r.contact then closedRun k (r.count + 1) s else setPhase k .up 0 s
    | .down => if r.contact then setPhase k .down 0 s else openRun k 1 s
    | .breaking => if r.contact then setPhase k .down 0 s else openRun k (r.count + 1) s
    | .blocked => s

/-! ### The sample event (R5) -/

/-- The contact flag of one key of the sampled position takes the reading of its return line: low is closed (R4, R5). -/
def updateContact (p : Position) (s : State) (l : ReturnLine) : State :=
  s.setRecord (keyAt p l) { s.record (keyAt p l) with contact := !s.pins.returns.getLsbD l.val }

/-- The sample event of a position: all eight contact flags first, then the eight keys' steps in ascending return line,
each whole (R5, R19). -/
def sampleEvent (p : Position) (s : State) : State :=
  allLines.foldl (fun s l => debounceStep (keyAt p l) s) (allLines.foldl (updateContact p) s)

end Sys2Proof.Machine
end

