-- ==== Sys2Proof/Machine/Keys.lean ====
section
/-!
DEFINITION. The key path's timers and requests: the chord window, repeat and hold expiries, and the requests of the key map,
the chord table, the timing settings and the key event queue (R16 to R94).
-/
namespace Sys2Proof.Machine

/-! ### Timers -/

/-- CHORD_WINDOW_EXPIRY (R63). -/
def execChordWindowExpiry (s : State) : Result :=
  whenLive (fun s => if timerDue s.chords.window s.now then expireWindow s else s) s

/-- The repeat timer expires: one REPEAT of the owner, phase PERIOD, and the timer started with the repeat period
(R74). -/
def expireRepeat (o : RepeatOwner) (s : State) : State :=
  { s with
    queue := handRepeat (s.mapEntry o.key).code o.key s.now s.queue
    repeatHold.owner := some { key := o.key, phase := .period }
    repeatHold.timer := startTimer s.now s.repeatHold.repeatPeriod }

/-- REPEAT_TIMER_EXPIRY (R74). -/
def execRepeatTimerExpiry (s : State) : Result :=
  whenLive (fun s =>
    match s.repeatHold.owner with
    | some o => if timerDue s.repeatHold.timer s.now then expireRepeat o s else s
    | none => s) s

/-- A key's hold timer expires: one HOLD event, and the timer is left stopped (R78). -/
def expireHold (k : KeyIndex) (s : State) : State :=
  (s.handEvent (.hold (s.mapEntry k).code k s.now)).setHoldTimer k none

/-- HOLD_TIMER_EXPIRY (R78). -/
def execHoldTimerExpiry (k : KeyIndex) (s : State) : Result :=
  whenLive (fun s => if timerDue s.repeatHold.holdTimers[k] s.now then expireHold k s else s) s

/-! ### Key map -/

/-- Every key a SET_KEYMAP names is UP (R32, check 3). -/
def State.namedKeysUp (s : State) (entries : List (KeyIndex × KeyMapEntry)) : Bool :=
  entries.all fun e => (s.record e.1).phase == .up

/-- The fields of a SET_KEYMAP that passes every check of R32. -/
def checkKeymap (payload : List Byte) (s : State) : Read (List (KeyIndex × KeyMapEntry)) :=
  match readKeymap payload with
  | .error code => .error code
  | .ok entries => if s.namedKeysUp entries then .ok entries else .error .keyActive

/-- The entries are written in the order they stand, a later one over an earlier (R33). -/
def writeMap (entries : List (KeyIndex × KeyMapEntry)) (s : State) : State :=
  { s with keys.map := entries.foldl (fun m e => m.set e.1 e.2) s.keys.map }

/-- SET_KEYMAP (R32, R33). -/
def execSetKeymap (s : State) : Result :=
  whenServing (serve 0x05#8 fun r s => answer (checkKeymap r.payload s) writeMap noFields r s) s

/-- GET_KEYMAP (R35). -/
def execGetKeymap (s : State) : Result :=
  whenServing (serve 0x06#8 fun r => answer (readKeyRun r.payload) noEffect (fun run s => run.flatMap s.mapFields) r) s

/-- READ_KEYS (R49, R50). -/
def execReadKeys (s : State) : Result :=
  whenServing (serve 0x07#8 fun r => answer (readNone r.payload) noEffect (fun _ s => s.keyFields) r) s

/-! ### Chord table -/

/-- The member set equals that of an occupied slot other than the named one (R67, check 3). -/
def State.chordConflicts (s : State) (q : ChordRequest) : Bool :=
  match q.record with
  | none => false
  | some c => s.chords.occupied.any fun r => r.1 != q.slot && sameKeys c.members r.2.members

/-- The fields of a SET_CHORD that passes every check of R67. -/
def checkChord (payload : List Byte) (s : State) : Read ChordRequest :=
  match readChord payload with
  | .error code => .error code
  | .ok q => if s.chordConflicts q then .error .conflict else .ok q

/-- A held list is flushed, then the slot is written (R68). -/
def writeChord (q : ChordRequest) (s : State) : State :=
  let t := if s.chords.held.isEmpty then s else flushHeld s
  { t with chords.slots := t.chords.slots.set q.slot q.record }

/-- SET_CHORD (R67, R68). -/
def execSetChord (s : State) : Result :=
  whenServing (serve 0x08#8 fun r s => answer (checkChord r.payload s) writeChord noFields r s) s

/-- GET_CHORD (R70). -/
def execGetChord (s : State) : Result :=
  whenServing (serve 0x09#8 fun r => answer (readChordSlot r.payload) noEffect
    (fun i s => chordFields i s.chords.slots[i]) r) s

/-! ### Timing settings and key event queue -/

/-- The four settings come into force together; no running timer changes (R82). -/
def setTiming (q : TimingRequest) (s : State) : State :=
  { s with
    repeatHold.repeatDelay := q.repeatDelay
    repeatHold.repeatPeriod := q.repeatPeriod
    repeatHold.holdTime := q.holdTime
    repeatHold.chordWindow := q.chordWindow }

/-- SET_TIMING (R81, R82). -/
def execSetTiming (s : State) : Result :=
  whenServing (serve 0x0A#8 fun r => answer (readTiming r.payload) setTiming noFields r) s

/-- FLUSH_KEYS: the queue is emptied and the reply counts the entries removed (R92). -/
def execFlushKeys (s : State) : Result :=
  whenServing (serve 0x0B#8 fun r => answer (readNone r.payload) (fun _ s => { s with queue := [] })
    (fun _ s => [natByte s.queue.length]) r) s

end Sys2Proof.Machine
end

