-- ==== Sys2Proof/Machine/Power.lean ====
section
/-!
DEFINITION. Power control: SLEEP, the sleep entry check, and the wake sweep (R129 to R136).
-/
namespace Sys2Proof.Machine

/-- An accepted SLEEP stores its mask, clears the link-seen flag, sets SLEEP_PENDING, posts its OK reply and waits for its
transmission to end (R130). -/
def acceptSleep (r : Frame) (mask : WakeMask) (s : State) : State :=
  let t := postFrame (replyTo r [ResultCode.ok.byte]) s
  { t with
    power.mask := mask
    power.linkSeen := false
    power.state := .sleepPending
    dispatch.phase := .sleepWait }

/-- SLEEP's checks in the dispatcher's order: length, range, then the six conditions (R130). -/
def executeSleep (r : Frame) (s : State) : State :=
  match readWakeMask r.payload with
  | .error code => finishRequest r [code.byte] s
  | .ok mask => if s.quiet then acceptSleep r mask s else finishRequest r [ResultCode.panelBusy.byte] s

/-- SLEEP (R130). -/
def execSleep (s : State) : Result :=
  whenServing (serve 0x13#8 executeSleep) s

/-- The sleep entry check at the end of the SLEEP reply (R132). -/
def checkSleepEntry (s : State) : State :=
  match s.sleepObstacle with
  | some cause => abandonSleep cause s
  | none => enterSleep s

/-- Some return line reads low (R134). -/
def State.someReturnLow (s : State) : Bool :=
  allLines.any fun l => !s.pins.returns.getLsbD l.val

/-- The levels of P0 to P7 during a sweep under N positions: P0 to P(N-1) low together, the others inactive (R134). -/
def sweepDrive (n : Nat) : Byte := 0xFF#8 <<< n

/-- The lines over a sweep: the scanned position lines driven low together with the segment lines low, and all position
lines inactive again after the reading (R134, log 12). -/
def sweepLines (s : State) : State :=
  { s with lines := { releasedLines with swept := sweepDrive s.scan.config.positions } }

/-- What a sweep's reading does: a return line read low wakes the part with cause KEY if keys are in the mask; otherwise
the next interval starts (R134, R135). -/
def settleSweep (s : State) : State :=
  if s.someReturnLow && s.power.mask.keys then wakePart .key s
  else { s with power.sweep := startTimer s.now sweepInterval }

/-- A sweep: the drive, then the reading (R134). -/
def sweepOnce (s : State) : State :=
  settleSweep (sweepLines s)

/-- A sweep is made: the part is ASLEEP with key scanning on, and its interval is over (R134). -/
def State.sweepDue (s : State) : Bool :=
  s.power.state == .asleep && s.scan.config.keyScanning && timerDue s.power.sweep s.now

/-- WAKE_SWEEP with the return lines at the given levels (R134). -/
def execWakeSweep (returns : Byte) (pins : EncoderPins) (s : State) : Result :=
  whenLive (fun s =>
    let t := presentEncoderPins pins (presentReturns returns s)
    if t.sweepDue then sweepOnce t else t) s

end Sys2Proof.Machine
end

