-- ==== Sys2Proof/Machine/Link.lean ====
section
/-!
DEFINITION. The link interface: the frame receiver, the hand-on of valid frames, the transmit arbiter, the end of a
transmission, and GET_LINK_STATS (R137 to R155).
-/
namespace Sys2Proof.Machine

/-! ### Counters (R149) -/

/-- A link counter rises by 1 and stays at 65535. -/
def bump (n : Nat) : Nat := satInc 65535 n

/-! ### The frame receiver (R138 to R143) -/

/-- The receiver returns to HUNT with its gap timer stopped (R140). -/
def huntAgain (s : State) : State :=
  { s with link.rx := .hunt, link.gapTimer := none }

/-- The receiver moves on outside HUNT and its gap timer is started, or started again (R140, R142). -/
def advanceRx (rx : RxState) (s : State) : State :=
  { s with link.rx := rx, link.gapTimer := startTimer s.now gapTime }

/-- The frame whose body is given (R139). A body is never shorter than 2 bytes (R140). -/
def frameOfBody : List Byte → Option Frame
  | kind :: tag :: payload => some { kind := kind, tag := tag, payload := payload }
  | _ => none

/-- The valid frame that a length, a body and a check byte are: all of them sum to 0x00 (R139, R141). -/
def validFrame (len : Nat) (body : List Byte) (check : Byte) : Option Frame :=
  if natByte len + byteSum body + check = 0#8 then frameOfBody body else none

/-- The arrival of a byte on RXD, good or in error: it sets the link-seen flag while SLEEP_PENDING, and wakes the part
with cause LINK while ASLEEP (R131, R135, R138). -/
def byteArrives (s : State) : State :=
  match s.power.state with
  | .awake => s
  | .sleepPending => { s with power.linkSeen := true }
  | .asleep => wakePart .link s

/-- A start bit is taken: RXD has been sampled high since the last framing error or hardware reset (R138, R143, log 9). -/
def State.startBitTaken (s : State) (sawHigh : Bool) : Bool :=
  !s.link.lineHeld || sawHigh

/-! ### Hand-on of valid frames (R144, R154, R171, R174) -/

/-- The unmatched acknowledgements counter rises (R144, R171). -/
def countUnmatched (s : State) : State :=
  { s with link.counters.unmatchedAcks := bump s.link.counters.unmatchedAcks }

/-- The acknowledgement timer once an ACK has left the given entries (R170). -/
def timerAfterAck (left : List OutstandingNotice) (s : State) : Timer :=
  if left.any (fun n => n.transmit == .sent) then
    if s.notices.state = .running then startTimer s.now s.notices.timeout else s.notices.timer
  else none

/-- The entries newer than the one with sequence number `seq`; absent if there is no such entry (R171). -/
def entriesAfter (seq : Byte) : List OutstandingNotice → Option (List OutstandingNotice)
  | [] => none
  | n :: rest => if n.seq = seq then some rest else entriesAfter seq rest

/-- An acknowledged sequence number removes its entry and every older one, or is counted as unmatched (R171). -/
def acknowledge (seq : Byte) (s : State) : State :=
  match entriesAfter seq s.notices.outstanding with
  | some left =>
    { s with
      notices.outstanding := left
      notices.timer := timerAfterAck left s }
  | none => countUnmatched s

/-- An ACK frame: one payload byte is the acknowledged sequence number, any other payload is unmatched (R144). -/
def settleAck (f : Frame) (s : State) : State :=
  match f.payload with
  | [seq] => acknowledge seq s
  | _ => countUnmatched s

/-- The frames-dropped counter rises (R154). -/
def dropFrame (s : State) : State :=
  { s with link.counters.framesDropped := bump s.link.counters.framesDropped }

/-- A QUEUE_FULL reply is posted and counted (R154). -/
def refuseArrival (f : Frame) (s : State) : State :=
  postFrame (replyTo f [ResultCode.queueFull.byte])
    { s with link.counters.queueFull := bump s.link.counters.queueFull }

/-- An arriving request is queued, answered QUEUE_FULL, or dropped and counted, by the room in the two lists (R154). -/
def settleArrival (f : Frame) (s : State) : State :=
  settleDispatcher
    (if s.dispatch.requests.length < requestCapacity then
      { s with dispatch.requests := s.dispatch.requests ++ [f] }
    else if repliesHeld s.dispatch < replyCapacity then refuseArrival f s
    else dropFrame s)

/-- A frame of unknown kind is answered with a reject frame, or dropped and counted if the reply list has no place (R144,
R154). -/
def settleUnknown (f : Frame) (s : State) : State :=
  settleDispatcher
    (if repliesHeld s.dispatch < replyCapacity then postFrame (rejectFrame f) s else dropFrame s)

/-- Where a valid frame goes, by its kind: the notice manager, the request queue, or a reject frame (R144). -/
def settleFrame (f : Frame) (s : State) : State :=
  if isRequestKind f.kind then settleArrival f s
  else if f.kind = ackKind then settleAck f s
  else settleUnknown f s

/-- The hand-on of a valid frame at the moment its check is found good: it is settled by its kind, and then reported to
the notice manager (R144, R154). -/
def handOn (f : Frame) (s : State) : State :=
  reportValidFrame (settleFrame f s)

/-! ### Bytes and framing errors (R138 to R142) -/

/-- The check byte is taken: a valid frame is handed on at once, any other is counted as a check error and discarded whole
(R141, R144). The receiver is back in HUNT either way (R140). -/
def takeCheck (len : Nat) (body : List Byte) (check : Byte) (s : State) : State :=
  match validFrame len body check with
  | some f => handOn f (huntAgain s)
  | none => huntAgain { s with link.counters.checkErrors := bump s.link.counters.checkErrors }

/-- A good byte is taken by the state the receiver is in (R140). -/
def takeByte (b : Byte) (s : State) : State :=
  match s.link.rx with
  | .hunt => if b = leadByte then advanceRx .length s else s
  | .length =>
    if minLength ≤ b.toNat ∧ b.toNat ≤ maxLength then advanceRx (.body b.toNat []) s
    else huntAgain { s with link.counters.lengthErrors := bump s.link.counters.lengthErrors }
  | .body len got =>
    let body := got ++ [b]
    advanceRx (if body.length < len then .body len body else .check len body) s
  | .check len got => takeCheck len got b s

/-- A byte with a good stop bit arrives: RXD was sampled high, and the power state takes note of it (R131, R135, R138). -/
def goodByteArrives (s : State) : State :=
  byteArrives { s with link.lineHeld := false }

/-- RECEIVE_BYTE (R138, R140). -/
def execReceiveByte (b : Byte) (sawHigh : Bool) (pins : EncoderPins) (s : State) : Result :=
  whenLive (fun s =>
    let t := presentEncoderPins pins s
    if t.startBitTaken sawHigh then takeByte b (goodByteArrives t) else t) s

/-- A framing error: the byte is discarded and counted, a partial frame is aborted, and RXD has to be sampled high before
the next start bit (R138). -/
def takeFramingError (s : State) : State :=
  huntAgain { s with
    link.lineHeld := true
    link.counters.framingErrors := bump s.link.counters.framingErrors }

/-- FRAMING_ERROR (R138). -/
def execFramingError (sawHigh : Bool) (pins : EncoderPins) (s : State) : Result :=
  whenLive (fun s =>
    let t := presentEncoderPins pins s
    if t.startBitTaken sawHigh then takeFramingError (byteArrives t) else t) s

/-- The gap timer expires with a frame in part: the frame is aborted and counted (R142). -/
def expireGap (s : State) : State :=
  if timerDue s.link.gapTimer s.now then
    huntAgain { s with link.counters.gapAborts := bump s.link.counters.gapAborts }
  else s

/-- GAP_TIMER_EXPIRY (R142). -/
def execGapTimerExpiry (s : State) : Result := whenLive expireGap s

/-! ### The check byte of a valid frame, by the frame's sort (R144, R154, R171, log 6) -/

/-- The frame that the receiver in CHECK holds but for its check byte (R140). -/
def State.frameHeld (s : State) : Option Frame :=
  match s.link.rx with
  | .check _ got => frameOfBody got
  | _ => none

/-- The good check byte of the frame held is taken, if the frame is of the given sort: the effect of its reception, with
the frame settled as given. With no such frame in hand nothing happens (log 1, 6). -/
def completeHeld (sort : Byte → Bool) (settle : Frame → State → State) (s : State) : State :=
  match s.frameHeld with
  | some f => if sort f.kind then settle f (huntAgain (goodByteArrives s)) else s
  | none => s

/-- ACK (R171): an ACK frame is found good and handed on. -/
def execAck (s : State) : Result :=
  whenLive (completeHeld (fun k => k == ackKind) fun f t => reportValidFrame (settleAck f t)) s

/-- REQUEST_ARRIVAL (R154): a request frame is found good and settled, and its report is owed until the dispatcher's next
execution or the part's next other step (R174, log 7). -/
def execRequestArrival (s : State) : Result :=
  whenLive (completeHeld isRequestKind fun f t => { settleArrival f t with link.reportOwed := true }) s

/-- UNKNOWN_KIND_FRAME (R144): a frame of unknown kind is found good and settled. -/
def execUnknownKindFrame (s : State) : Result :=
  whenLive (completeHeld (fun k => !isKnownKind k) fun f t => reportValidFrame (settleUnknown f t)) s

/-! ### The transmit arbiter (R147) -/

/-- The oldest frame of the reply list is begun and leaves the list (R147). -/
def beginReply (f : Frame) (rest : List Frame) (s : State) : State :=
  { s with
    dispatch.replies := rest
    link.tx := some { frame := f, source := .reply }
    link.replyRun := if s.link.replyRun < 2 then s.link.replyRun + 1 else 2 }

/-- The oldest entry that is QUEUED or RESEND, with the list in which it has become SENT (R147, R170). -/
def offerNotice : List OutstandingNotice → Option (OutstandingNotice × List OutstandingNotice)
  | [] => none
  | n :: rest =>
    if n.transmit = .sent then (offerNotice rest).map fun o => (o.1, n :: o.2)
    else some (n, { n with transmit := .sent } :: rest)

/-- A notice is begun; a RESEND entry counts one retransmission (R147, R170). -/
def beginNotice (n : OutstandingNotice) (entries : List OutstandingNotice) (s : State) : State :=
  { s with
    notices.outstanding := entries
    link.tx := some { frame := n.frame, source := .notice }
    link.replyRun := 0
    link.counters.retransmissions :=
      if n.transmit = .resend then bump s.link.counters.retransmissions else s.link.counters.retransmissions }

/-- The arbiter begins the notice its notice source offers. -/
def chooseNotice (s : State) : State :=
  match offerNotice s.notices.outstanding with
  | some (n, entries) => beginNotice n entries s
  | none => s

/-- The arbiter's choice with the transmitter IDLE: the reply, unless a notice waits and two replies have gone before it
(R147). -/
def chooseFrame (s : State) : State :=
  match s.dispatch.replies with
  | f :: rest => if s.noticeWaits ∧ 2 ≤ s.link.replyRun then chooseNotice s else beginReply f rest s
  | [] => if s.noticeWaits then chooseNotice s else s

/-- ARBITER_CHOICE (R147). -/
def execArbiterChoice (s : State) : Result :=
  whenLive (fun s => if s.link.tx.isNone then chooseFrame s else s) s

/-! ### The end of a transmission (R146) -/

/-- The frame is the OK reply to a request of the given kind. -/
def Frame.isOkReply (f : Frame) (kind : Byte) : Bool :=
  f.kind == kind + 0x80#8 && f.payload == [ResultCode.ok.byte]

/-- The notice manager is told that a notice has been sent: the acknowledgement timer is started, or started again, if it
is RUNNING and the notice's entry, found by its sequence number, is still in the list (R146, R170, log 15). -/
def noticeSent (seq : Byte) (s : State) : State :=
  if s.notices.state = .running ∧ s.notices.outstanding.any (fun n => n.seq == seq) then
    { s with notices.timer := startTimer s.now s.notices.timeout }
  else s

/-- A reply has been sent: that of RESTART lets it take effect, that of SLEEP leads to the sleep entry check (R146, R162,
log 13). -/
def replySent (f : Frame) (s : State) : State :=
  if f.isOkReply 0x03#8 ∧ s.dispatch.phase = .restartWait then restartTakesEffect s
  else if f.isOkReply 0x13#8 ∧ s.dispatch.phase = .sleepWait then checkSleepEntry s
  else s

/-- The transmitter becomes IDLE and the end of transmission is handed on (R146). The arbiter's next choice is a step of
its own (log 26). -/
def endTransmission (t : TxFrame) (s : State) : State :=
  let s := { s with link.tx := none }
  match t.source with
  | .notice => noticeSent t.frame.tag s
  | .reply => replySent t.frame s

/-- END_OF_TRANSMISSION (R146). -/
def execEndOfTransmission (pins : EncoderPins) (s : State) : Result :=
  whenLive (fun s =>
    let t := presentEncoderPins pins s
    match t.link.tx with
    | some f => endTransmission f t
    | none => t) s

/-! ### GET_LINK_STATS (R150) -/

/-- GET_LINK_STATS: the reply copies the eight counters before a clear (R150). -/
def execGetLinkStats (s : State) : Result :=
  whenServing (serve 0x15#8 fun r => answer (readClear r.payload)
    (fun clear s => if clear then { s with link.counters := zeroCounters } else s)
    (fun _ s => s.link.counters.fields) r) s

end Sys2Proof.Machine
end

