-- ==== Sys2Proof/Machine/Notices.lean ====
section
/-!
DEFINITION. The notice manager's own steps, composition and the acknowledgement timer's expiry, with SET_NOTICES, IDENTIFY
and GET_STATUS (R159 to R161, R165 to R175).
-/
namespace Sys2Proof.Machine

/-! ### Composition (R169) -/

/-- A composed notice takes the next sequence number and stands at the newest end, QUEUED with try count 1 (R169). -/
def appendNotice (content : NoticeContent) (s : State) : State :=
  { s with
    notices.outstanding := s.notices.outstanding ++
      [{ seq := s.notices.nextSeq, content := content, tries := 1, transmit := .queued }]
    notices.nextSeq := s.notices.nextSeq + 1#8 }

/-- The unbroken run of entries from the front of the queue whose encoded sizes stay within `room` bytes, and what is left
behind (R90). -/
def drainQueue : Nat → List QueueEntry → List QueueEntry × List QueueEntry
  | _, [] => ([], [])
  | room, e :: rest =>
    if e.size ≤ room then
      ((e :: (drainQueue (room - e.size) rest).1), (drainQueue (room - e.size) rest).2)
    else ([], e :: rest)

/-- A channel's report as it stands (R103). -/
def channelReport (c : Channel) (e : EncoderChannel) : ChannelReport :=
  { channel := c, overFlag := e.overFlag, delta := e.delta, position := e.position }

/-- The reports of the eligible channels, E0 before E1 (R103). -/
def State.dueReports (s : State) : List ChannelReport :=
  [Channel.e0, Channel.e1].filterMap fun c =>
    if (s.channel c).eligible then some (channelReport c (s.channel c)) else none

/-- A reported channel: delta 0, OVER clear, coalescing timer started; a channel that is not eligible is left as it is
(R103). -/
def reportChannel (now : Time) (e : EncoderChannel) : EncoderChannel :=
  if e.eligible then { clearReport e with timer := startTimer now e.interval } else e

/-- The composition of one class: its content is built from its source, and the source is lowered, cleared or drained
(R90, R103, R166, R167, R169). -/
def composeClass (c : NoticeClass) (s : State) : State :=
  match c with
  | .ready =>
    match s.notices.ready with
    | some cause => appendNotice (.ready cause) { s with notices.ready := none }
    | none => s
  | .wake =>
    match s.notices.wake with
    | some cause => appendNotice (.wake cause) { s with notices.wake := none }
    | none => s
  | .panelFault => appendNotice (.panelFault s.notices.fault) { s with notices.fault := clearFault }
  | .keys =>
    appendNotice (.keys (drainQueue keysContentBytes s.queue).1)
      { s with queue := (drainQueue keysContentBytes s.queue).2 }
  | .encoder =>
    appendNotice (.encoder s.dueReports)
      { s with
        encoders.e0 := reportChannel s.now s.encoders.e0
        encoders.e1 := reportChannel s.now s.encoders.e1 }

/-- Composition may be made: RUNNING, fewer than W entries outstanding, and not ASLEEP (R169). -/
def State.mayCompose (s : State) : Bool :=
  s.notices.state == .running && decide (s.notices.outstanding.length < s.notices.window) && s.power.state != .asleep

/-- The enabled pending class of highest priority is composed (R169). -/
def composeNotice (s : State) : State :=
  match s.dueClass with
  | some c => if s.mayCompose then composeClass c s else s
  | none => s

/-- NOTICE_COMPOSITION (R169). -/
def execNoticeComposition (s : State) : Result := whenLive composeNotice s

/-! ### The acknowledgement timer's expiry (R172) -/

/-- A SENT entry becomes RESEND and its try count rises by 1; any other entry is untouched (R172). -/
def retryEntry (n : OutstandingNotice) : OutstandingNotice :=
  if n.transmit = .sent then { n with tries := n.tries + 1, transmit := .resend } else n

/-- Some SENT entry has used its last try (R172). -/
def triesSpent (entries : List OutstandingNotice) : Bool :=
  entries.any fun n => n.transmit == .sent && decide (maxTries ≤ n.tries)

/-- The expiry: every SENT entry is retried, or, where one has try count 4, the notice manager becomes STALLED (R172). -/
def expireAck (s : State) : State :=
  if timerDue s.notices.timer s.now then
    if triesSpent s.notices.outstanding then { s with notices.timer := none, notices.state := .stalled }
    else { s with notices.timer := none, notices.outstanding := s.notices.outstanding.map retryEntry }
  else s

/-- ACKNOWLEDGEMENT_TIMER_EXPIRY (R172). -/
def execAcknowledgementTimerExpiry (s : State) : Result := whenLive expireAck s

/-! ### Requests -/

/-- The three settings come into force together; a running timer keeps its length (R175). -/
def setNotices (q : NoticeRequest) (s : State) : State :=
  { s with
    notices.mask := q.mask
    notices.window := q.window
    notices.timeout := q.timeout }

/-- SET_NOTICES (R175). -/
def execSetNotices (s : State) : Result :=
  whenServing (serve 0x14#8 fun r => answer (readNoticeSettings r.payload) setNotices noFields r) s

/-- IDENTIFY (R159). -/
def execIdentify (s : State) : Result :=
  whenServing (serve 0x01#8 fun r => answer (readNone r.payload) noEffect (fun _ _ => identifyFields) r) s

/-- GET_STATUS: every field is read at one event (R160, R161). -/
def execGetStatus (s : State) : Result :=
  whenServing (serve 0x02#8 fun r => answer (readNone r.payload) noEffect (fun _ s => s.statusFields) r) s

end Sys2Proof.Machine
end

