-- ==== Sys2Proof/Machine/Reset.lean ====
section
/-!
DEFINITION. The reset commands: HARDWARE_RESET, NRST_HELD_LOW, and RESTART up to its reply (R10, R137, R162).
-/
namespace Sys2Proof.Machine

/-- HARDWARE_RESET: reset ends with NRST high, SPD and the encoder pins at the given levels, and every block takes its
reset value (R10, R15, R30, R95, R137, R143, R145, R149, R163, R164, R167). SOFT is no cause of a hardware reset
(R167). -/
def execHardwareReset (cause : ReadyCause) (spd : Bool) (pins : EncoderPins) (s : State) : Result :=
  if cause.isHardware then
    .next (hardwareResetEnds cause (presentEncoderPins pins { s with pins.spd := spd, pins.nrst := true }))
  else .next s

/-- NRST_HELD_LOW: the frame on TXD is cut off, the slot in progress ends, all position lines are inactive and all segment
lines low; no byte is received until reset ends (R10, R137, R143, R145). -/
def execNrstHeldLow (s : State) : Result :=
  .next
    { s with
      pins.nrst := false
      link.tx := none
      scan.slotRunning := false
      lines := releasedLines }

/-- An accepted RESTART posts its OK reply and waits for its transmission to end (R162). -/
def executeRestart (r : Frame) (s : State) : State :=
  match readNone r.payload with
  | .error code => finishRequest r [code.byte] s
  | .ok () =>
    let t := postFrame (replyTo r [ResultCode.ok.byte]) s
    { t with dispatch.phase := .restartWait }

/-- RESTART (R162). -/
def execRestart (s : State) : Result :=
  whenServing (serve 0x03#8 executeRestart) s

end Sys2Proof.Machine
end

