-- ==== Sys2Proof/Machine/Scan.lean ====
section
/-!
DEFINITION. The scan engine: the millisecond tick, slot start and slot end, the frame boundary, and SET_SCAN (R1 to R15).
-/
namespace Sys2Proof.Machine

/-- A tick makes the sample of an enabled channel due, unless the part is ASLEEP (R96). -/
def oweSample (power : PowerState) (e : EncoderChannel) : EncoderChannel :=
  { e with sampleDue := e.sampleDue || (e.enabled && power != .asleep) }

/-- A tick: panel time advances by 1 and wraps, and the enabled channels' samples become due (R8, R96). An instant that
RESTART shares with a key sample is over by then (log 27). -/
def tick (s : State) : State :=
  { s with
    scan.panelTime := s.scan.panelTime + 1#16
    scan.cutSlot := none
    encoders.e0 := oweSample s.power.state s.encoders.e0
    encoders.e1 := oweSample s.power.state s.encoders.e1 }

/-- MILLISECOND_TICK, in every power state (R8). -/
def execMillisecondTick (s : State) : Result := whenLive tick s

/-- A slot may start: the part is not ASLEEP and no slot is in progress (R1). -/
def State.slotMayStart (s : State) : Bool :=
  s.power.state != .asleep && !s.scan.slotRunning

/-- The position lines with one line driven low and the other seven inactive (R3). -/
def driveLine (p : Position) : Byte := ~~~(1#8 <<< p.val)

/-- SLOT_START of position p: the pattern composed for p is driven and recorded as its shown pattern, and its position
line is driven low, for the whole slot (R3, R115, R117). -/
def startSlot (s : State) : State :=
  let p := s.scan.slotIndex
  { s with
    scan.slotRunning := true
    scan.cutSlot := none
    lines := { position := driveLine p, segment := s.display.compose p, lit := s.display.litSixteenths p, swept := 0xFF#8 }
    display.shown := s.display.shown.set p (s.display.compose p) }

/-- SLOT_START (R3). -/
def execSlotStart (s : State) : Result :=
  whenLive (fun s => if s.slotMayStart then startSlot s else s) s

/-- The slot after slot p of a scan frame of n slots (R1, R4). -/
def nextSlot (p : Position) (n : Nat) : Position :=
  if p.val + 1 < n then p + 1 else 0

/-- The lines are released and the slot index advances (R4). -/
def releaseSlot (s : State) : State :=
  { s with
    scan.slotRunning := false
    scan.slotIndex := nextSlot s.scan.slotIndex s.scan.config.positions
    lines := releasedLines }

/-- A key's contact flag is set open. -/
def openContact (r : KeyRecord) : KeyRecord := { r with contact := false }

/-- The contact flags when a configuration is applied: all open if key scanning is set off, and those of positions N to 7
open if N is smaller than before (R14). -/
def contactsApplied (before after : ScanConfig) (table : Vector KeyRecord 64) : Vector KeyRecord 64 :=
  Vector.ofFn fun k : KeyIndex =>
    if !after.keyScanning || (after.positions < before.positions && after.positions ≤ k.val / 8) then
      openContact table[k]
    else table[k]

/-- The shown patterns of positions N to 7 become 0x0000 (R117). -/
def shownApplied (n : Nat) (shown : Vector Pattern 8) : Vector Pattern 8 :=
  Vector.ofFn fun p : Position => if n ≤ p.val then 0x0000#16 else shown[p]

/-- A pending configuration is applied (R13, R14, R117). -/
def applyConfig (c : ScanConfig) (s : State) : State :=
  { s with
    scan.config := c
    scan.slotIndex := 0
    keys.table := contactsApplied s.scan.config c s.keys.table
    display.shown := shownApplied c.positions s.display.shown }

/-- The request a pending SET_SCAN was, as far as its reply needs it (R153). -/
def PendingScan.request (p : PendingScan) : Frame := { kind := 0x04#8, tag := p.tag, payload := [] }

/-- The frame boundary settles a pending configuration: applied and answered OK if every key is UP, discarded and answered
KEY_ACTIVE otherwise; the dispatcher is free again (R6, R13). -/
def settlePending (s : State) : State :=
  match s.scan.pendingScan with
  | none => s
  | some p =>
    let t := { s with scan.pendingScan := none }
    if s.allUp then finishRequest p.request [ResultCode.ok.byte] (applyConfig p.config t)
    else finishRequest p.request [ResultCode.keyActive.byte] t

/-- SLOT_END of position p: the sample event if key scanning is on, the lines released, the slot index advanced, and at
the slot end of slot N − 1 the frame boundary (R4, R5, R6). -/
def endSlot (s : State) : State :=
  let p := s.scan.slotIndex
  let boundary := p.val + 1 = s.scan.config.positions
  let t := releaseSlot (if s.scan.config.keyScanning then sampleEvent p s else s)
  if boundary then settlePending t else t

/-- A slot is in progress, and the part is not ASLEEP (R4). -/
def State.slotMayEnd (s : State) : Bool :=
  s.power.state != .asleep && s.scan.slotRunning

/-- The position of a key sample at the instant at which RESTART took effect first (R164): that of the slot RESTART ended,
while the instant lasts and the part is not ASLEEP. DESIGN CHOICE (unsafe, log 27). -/
def State.cutSample (s : State) : Option Position :=
  if s.power.state = .asleep then none else s.scan.cutSlot

/-- The key sample after RESTART: the sample event meets the restarted part, its open contact flags and its reset debounce
states. It ends no slot: the lines are released and slot 0 is next already (R10, R163, R164). -/
def sampleCutSlot (p : Position) (s : State) : State :=
  sampleEvent p { s with scan.cutSlot := none }

/-- The return lines are read at the given levels: at the end of the slot in progress (R4), or for the key sample at the
instant of a RESTART taken first (R164). -/
def takeReading (returns : Byte) (s : State) : State :=
  if s.slotMayEnd then endSlot (presentReturns returns s)
  else
    match s.cutSample with
    | some p => sampleCutSlot p (presentReturns returns s)
    | none => s

/-- SLOT_END with the return lines at the given levels (R4, R164). -/
def execSlotEnd (returns : Byte) (s : State) : Result :=
  whenLive (takeReading returns) s

/-- A SET_SCAN that passes its checks becomes the pending configuration, and the dispatcher waits in SCAN_WAIT with no
reply posted (R11). -/
def executeSetScan (r : Frame) (s : State) : State :=
  match readScan r.payload with
  | .error code => finishRequest r [code.byte] s
  | .ok c =>
    { s with
      scan.pendingScan := some { config := c, tag := r.tag }
      dispatch.phase := .scanWait }

/-- SET_SCAN (R11). -/
def execSetScan (s : State) : Result :=
  whenServing (serve 0x04#8 executeSetScan) s

end Sys2Proof.Machine
end

