-- ==== Sys2Proof/Machine/Dispatch.lean ====
section
/-!
DEFINITION. One arm per command, each a direct call of its meaning, in the order of spec/opcode_table.json.
-/
namespace Sys2Proof.Machine

def exec (i : Instr) (s : State) : Host.Outcome State Fault Refusal :=
  match i with
  | .hardwareReset cause spd pins => Sys2Proof.Machine.execHardwareReset cause spd pins s
  | .millisecondTick => Sys2Proof.Machine.execMillisecondTick s
  | .slotStart => Sys2Proof.Machine.execSlotStart s
  | .slotEnd returns => Sys2Proof.Machine.execSlotEnd returns s
  | .chordWindowExpiry => Sys2Proof.Machine.execChordWindowExpiry s
  | .repeatTimerExpiry => Sys2Proof.Machine.execRepeatTimerExpiry s
  | .holdTimerExpiry key => Sys2Proof.Machine.execHoldTimerExpiry key s
  | .encoderSample channel pins => Sys2Proof.Machine.execEncoderSample channel pins s
  | .coalescingTimerExpiry channel pins => Sys2Proof.Machine.execCoalescingTimerExpiry channel pins s
  | .encoderPinChange pins => Sys2Proof.Machine.execEncoderPinChange pins s
  | .blinkTimerExpiry => Sys2Proof.Machine.execBlinkTimerExpiry s
  | .testTimerExpiry => Sys2Proof.Machine.execTestTimerExpiry s
  | .wakeSweep returns pins => Sys2Proof.Machine.execWakeSweep returns pins s
  | .receiveByte byte sawHigh pins => Sys2Proof.Machine.execReceiveByte byte sawHigh pins s
  | .framingError sawHigh pins => Sys2Proof.Machine.execFramingError sawHigh pins s
  | .gapTimerExpiry => Sys2Proof.Machine.execGapTimerExpiry s
  | .ack => Sys2Proof.Machine.execAck s
  | .requestArrival => Sys2Proof.Machine.execRequestArrival s
  | .unknownKindFrame => Sys2Proof.Machine.execUnknownKindFrame s
  | .arbiterChoice => Sys2Proof.Machine.execArbiterChoice s
  | .endOfTransmission pins => Sys2Proof.Machine.execEndOfTransmission pins s
  | .noticeComposition => Sys2Proof.Machine.execNoticeComposition s
  | .acknowledgementTimerExpiry => Sys2Proof.Machine.execAcknowledgementTimerExpiry s
  | .identify => Sys2Proof.Machine.execIdentify s
  | .getStatus => Sys2Proof.Machine.execGetStatus s
  | .restart => Sys2Proof.Machine.execRestart s
  | .setScan => Sys2Proof.Machine.execSetScan s
  | .setKeymap => Sys2Proof.Machine.execSetKeymap s
  | .getKeymap => Sys2Proof.Machine.execGetKeymap s
  | .readKeys => Sys2Proof.Machine.execReadKeys s
  | .setChord => Sys2Proof.Machine.execSetChord s
  | .getChord => Sys2Proof.Machine.execGetChord s
  | .setTiming => Sys2Proof.Machine.execSetTiming s
  | .flushKeys => Sys2Proof.Machine.execFlushKeys s
  | .setEncoders pins => Sys2Proof.Machine.execSetEncoders pins s
  | .readEncoders => Sys2Proof.Machine.execReadEncoders s
  | .writeDisplay => Sys2Proof.Machine.execWriteDisplay s
  | .setGlyphs => Sys2Proof.Machine.execSetGlyphs s
  | .setDisplay => Sys2Proof.Machine.execSetDisplay s
  | .displayTest => Sys2Proof.Machine.execDisplayTest s
  | .readDisplay => Sys2Proof.Machine.execReadDisplay s
  | .sleep => Sys2Proof.Machine.execSleep s
  | .setNotices => Sys2Proof.Machine.execSetNotices s
  | .getLinkStats => Sys2Proof.Machine.execGetLinkStats s
  | .nrstHeldLow => Sys2Proof.Machine.execNrstHeldLow s

end Sys2Proof.Machine
end

