-- ==== Sys2Proof/Safety.lean ====
section
/-!
DEFINITION. What counts as a sound state of the part, block by block, as the rules state it, and the notions the claims are
written with: the part takes its next step, the dispatcher is at a request, it has answered it, a good byte has arrived, and a
valid frame has been reported.
-/
namespace Sys2Proof

/-- The kind of the requests a command executes, for the dispatcher's executions; none for every other command (11,
"Request kinds"). -/
def Instr.requestKind : Instr → Option Byte
  | .identify => some 0x01#8
  | .getStatus => some 0x02#8
  | .restart => some 0x03#8
  | .setScan => some 0x04#8
  | .setKeymap => some 0x05#8
  | .getKeymap => some 0x06#8
  | .readKeys => some 0x07#8
  | .setChord => some 0x08#8
  | .getChord => some 0x09#8
  | .setTiming => some 0x0A#8
  | .flushKeys => some 0x0B#8
  | .setEncoders _ => some 0x0C#8
  | .readEncoders => some 0x0D#8
  | .writeDisplay => some 0x0E#8
  | .setGlyphs => some 0x0F#8
  | .setDisplay => some 0x10#8
  | .displayTest => some 0x11#8
  | .readDisplay => some 0x12#8
  | .sleep => some 0x13#8
  | .setNotices => some 0x14#8
  | .getLinkStats => some 0x15#8
  | .hardwareReset _ _ _ | .millisecondTick | .slotStart | .slotEnd _ | .chordWindowExpiry | .repeatTimerExpiry
  | .holdTimerExpiry _ | .encoderSample _ _ | .coalescingTimerExpiry _ _ | .encoderPinChange _ | .blinkTimerExpiry
  | .testTimerExpiry | .wakeSweep _ _ | .receiveByte _ _ _ | .framingError _ _ | .gapTimerExpiry | .ack | .requestArrival
  | .unknownKindFrame | .arbiterChoice | .endOfTransmission _ | .noticeComposition | .acknowledgementTimerExpiry
  | .nrstHeldLow => none

end Sys2Proof

namespace Sys2Proof.Machine

/-! ### The part at a step (R10, R137, R174) -/

/-- The part is out of reset, and no report of a valid frame is owed: the next step's effect is its own (log 7, 16). -/
abbrev State.live (s : State) : Prop :=
  s.pins.nrst = true ∧ s.link.reportOwed = false

/-- The state once a valid frame has been reported to the notice manager: a stall is over, with every entry left RESEND
and try count 1 (R144, R174). -/
def State.reported (s : State) : State :=
  match s.notices.state with
  | .running => s
  | .stalled => { s with
      notices.state := .running
      notices.outstanding := s.notices.outstanding.map fun n => { n with tries := 1, transmit := .resend } }

/-- The state once a good byte has arrived, before the frame receiver takes it: RXD has been sampled high, the link-seen
flag is set while SLEEP_PENDING, and the part is woken with cause LINK while ASLEEP (R131, R135, R138). -/
def State.byteArrived (s : State) : State :=
  let u : State := { s with link.lineHeld := false }
  match s.power.state with
  | .awake => u
  | .sleepPending => { u with power.linkSeen := true }
  | .asleep => wakePart .link u

/-! ### The dispatcher at a request (R156 to R158) -/

/-- The part takes its next step and is AWAKE, its dispatcher is IDLE or in WAIT_REPLY_SPACE with a free place in the
reply list, and the oldest request is `r`, of the given kind, with `rest` behind it (R156, R157, R158). -/
def State.serves (kind : Byte) (r : Frame) (rest : List Frame) (s : State) : Prop :=
  s.live ∧ s.power.state = .awake ∧ (s.dispatch.phase = .idle ∨ s.dispatch.phase = .waitReplySpace) ∧
    s.dispatch.replies.length < 4 ∧ s.dispatch.requests = r :: rest ∧ r.kind = kind

/-- The state in which the request `r` has left the queue and its reply, with its kind plus 0x80, its tag and the given
payload, stands at the newest end of the reply list. The dispatcher is IDLE, or in WAIT_REPLY_SPACE where a request waits
and the list has become full (R153, R156, R157, R158). -/
def State.replied (r : Frame) (rest : List Frame) (payload : List Byte) (s : State) : State :=
  { s with
    dispatch :=
      { requests := rest
        replies := s.dispatch.replies ++ [{ kind := r.kind + 0x80#8, tag := r.tag, payload := payload }]
        phase := if rest ≠ [] ∧ 3 ≤ s.dispatch.replies.length then .waitReplySpace else .idle } }

/-! ### The key event queue (R83, R84, R86 to R88) -/

/-- An entry is a LOST marker. -/
def QueueEntry.isLost : QueueEntry → Bool
  | .lost _ => true
  | _ => false

/-- A REPEAT record's or a marker's count is 1 to 255 (R84). -/
def QueueEntry.countInRange : QueueEntry → Bool
  | .repeated _ _ _ count => decide (1 ≤ count) && decide (count ≤ 255)
  | .lost count => decide (1 ≤ count) && decide (count ≤ 255)
  | _ => true

/-- The key of a REPEAT record. -/
def QueueEntry.repeatKey? : QueueEntry → Option KeyIndex
  | .repeated _ key _ _ => some key
  | _ => none

/-- At most 16 entries, the newest of 16 a marker (R83); no two markers next to each other (R87); no two REPEAT records of
one key (R76); every count in its range (R84). -/
structure QueueSound (q : List QueueEntry) : Prop where
  capacity     : q.length ≤ 16
  sixteenth    : q.length = 16 → (q.getLast?.map QueueEntry.isLost) = some true
  markersApart : q.IsChain fun a b => ¬ (a.isLost = true ∧ b.isLost = true)
  oneRecord    : (q.filterMap QueueEntry.repeatKey?).Nodup
  counts       : ∀ e ∈ q, e.countInRange = true

/-! ### Scan configuration, lines and display (R1, R10, R112, R113, R117, R134) -/

/-- Every setting is in its range (R10). -/
structure ScanConfig.Sound (c : ScanConfig) : Prop where
  positions : 1 ≤ c.positions ∧ c.positions ≤ 8
  slotUnits : 1 ≤ c.slotUnits ∧ c.slotUnits ≤ 8
  dp        : 1 ≤ c.dp ∧ c.dp ≤ 15
  dr        : 1 ≤ c.dr ∧ c.dr ≤ 15
  limit     : 2 ≤ c.limit ∧ c.limit ≤ 8

/-- The configurations in force and pending are in range and the slot index names a scanned position (R1, R10). A slot whose
key sample may still follow RESTART has ended, and its position is scanned with key scanning on (R4, R5, R164). -/
structure ScanSound (s : State) : Prop where
  inForce : s.scan.config.Sound
  waiting : ∀ p, s.scan.pendingScan = some p → p.config.Sound
  slot    : s.scan.slotIndex.val < s.scan.config.positions
  cut     : ∀ p, s.scan.cutSlot = some p →
    s.scan.slotRunning = false ∧ s.scan.config.keyScanning = true ∧ p.val < s.scan.config.positions

/-- Scan, panel lines, sweep and display agree: one position line is driven exactly while a slot runs, none while ASLEEP
or in reset; a sweep drives no unscanned position; unscanned positions and a sleeping panel show 0x0000; the blink timer
runs exactly while the half-period is not 0 (R1, R3, R10, R112, R113, R117, R128, R133, R134). -/
structure PanelSound (s : State) : Prop where
  scan        : ScanSound s
  driven      : s.scan.slotRunning = true →
    s.lines.position = ~~~(1#8 <<< s.scan.slotIndex.val) ∧ s.power.state ≠ .asleep ∧ s.pins.nrst = true
  released    : s.scan.slotRunning = false → s.lines.position = 0xFF#8 ∧ s.lines.segment = 0x0000#16
  lit         : s.lines.lit ≤ 16
  swept       : ∀ p : Position, s.scan.config.positions ≤ p.val → s.lines.swept.getLsbD p.val = true
  unscanned   : ∀ p : Position, s.scan.config.positions ≤ p.val → s.display.shown[p] = 0x0000#16
  dark        : s.power.state = .asleep → ∀ p : Position, s.display.shown[p] = 0x0000#16
  brightness  : 1 ≤ s.display.brightness ∧ s.display.brightness ≤ 16
  halfPeriod  : s.display.blinkHalf ≤ 8
  blinkTimer  : s.display.blinkTimer.isSome = true ↔ s.display.blinkHalf ≠ 0
  steady      : s.display.blinkHalf = 0 → s.display.blinkOn = true
  sweep       : s.power.sweep.isSome = true ↔ s.power.state = .asleep ∧ s.scan.config.keyScanning = true

/-! ### Keys, chords, repeat and hold (R7, R18, R24, R25, R44, R52, R54, R55, R72, R77) -/

/-- The key is admitted and not yet released: DOWN or BREAKING (R44). -/
def KeyRecord.isHeldDown (r : KeyRecord) : Bool :=
  r.phase == .down || r.phase == .breaking

/-- The debounce count has the meaning its state gives it (R18). -/
def KeyRecord.countSound (c : ScanConfig) (r : KeyRecord) : Prop :=
  match r.phase with
  | .up => r.count = 0
  | .making => 1 ≤ r.count ∧ r.count < c.dp
  | .down => r.count = 0
  | .breaking => 1 ≤ r.count ∧ r.count < c.dr
  | .blocked => r.count < c.dr

/-- Every record is shaped as its state asks; a disabled key is UP; unscanned keys are UP with open flags, and so is every
key while key scanning is off (R7, R14, R18, R25). -/
structure RecordsSound (s : State) : Prop where
  count     : ∀ k : KeyIndex, (s.record k).countSound s.scan.config
  reason    : ∀ k : KeyIndex, (s.record k).blockReason.isSome = true ↔ (s.record k).phase = .blocked
  admission : ∀ k : KeyIndex, (s.record k).admission.isSome = true ↔ (s.record k).isHeldDown = true
  chorded   : ∀ k : KeyIndex, (s.record k).chorded = true → (s.record k).isHeldDown = true
  disabled  : ∀ k : KeyIndex, (s.mapEntry k).enabled = false → (s.record k).phase = .up
  unscanned : ∀ k : KeyIndex, s.scan.config.positions ≤ k.val / 8 ∨ s.scan.config.keyScanning = false →
    (s.record k).phase = .up ∧ (s.record k).contact = false

/-- The down-set holds each key at most once, exactly the keys that are DOWN or BREAKING, and at most L of them; while the
part is ASLEEP every key is UP (R44, R45, R133). -/
structure DownSetSound (s : State) : Prop where
  once   : s.keys.downSet.Nodup
  exactly : ∀ k : KeyIndex, k ∈ s.keys.downSet ↔ (s.record k).isHeldDown = true
  limit  : s.keys.downSet.length ≤ s.scan.config.limit
  asleep : s.power.state = .asleep → ∀ k : KeyIndex, (s.record k).phase = .up

/-- Every occupied slot has 2 to 4 distinct members, and no two slots have one member set (R52). The held list keeps the
down-set's order, holds at most 3 unchorded presses with their admission times, fits into a slot's member set, and has its
window timer running exactly while it is not empty (R54, R55, R57). -/
structure ChordsSound (s : State) : Prop where
  members  : ∀ i : SlotIndex, ∀ c, s.chords.slots[i] = some c →
    2 ≤ c.members.length ∧ c.members.length ≤ 4 ∧ c.members.Nodup
  distinct : ∀ i j : SlotIndex, i ≠ j → ∀ c d, s.chords.slots[i] = some c → s.chords.slots[j] = some d →
    ¬ (∀ k, k ∈ c.members ↔ k ∈ d.members)
  order    : s.heldKeys.Sublist s.keys.downSet
  atMost   : s.chords.held.length ≤ 3
  window   : s.chords.window.isSome = true ↔ s.chords.held ≠ []
  press    : ∀ h ∈ s.chords.held, (s.record h.key).chorded = false ∧ (s.record h.key).admission = some h.time
  within   : s.chords.held ≠ [] → ∃ i : SlotIndex, ∃ c, s.chords.slots[i] = some c ∧ ∀ h ∈ s.chords.held, h.key ∈ c.members

/-- The repeat owner and every key with a running hold timer are in the down-set, unchorded and not held back by the chord
matcher; the repeat timer runs exactly while there is an owner; the four settings are in range; no key event waits while
the part is ASLEEP (R66, R71, R72, R77, R83). -/
structure RepeatHoldSound (s : State) : Prop where
  owner  : ∀ o, s.repeatHold.owner = some o →
    o.key ∈ s.keys.downSet ∧ (s.record o.key).chorded = false ∧ o.key ∉ s.heldKeys
  timer  : s.repeatHold.timer.isSome = true ↔ s.repeatHold.owner.isSome = true
  hold   : ∀ k : KeyIndex, s.repeatHold.holdTimers[k].isSome = true →
    k ∈ s.keys.downSet ∧ (s.record k).chorded = false ∧ k ∉ s.heldKeys
  delay  : 100 ≤ s.repeatHold.repeatDelay ∧ s.repeatHold.repeatDelay ≤ 2000
  period : 20 ≤ s.repeatHold.repeatPeriod ∧ s.repeatHold.repeatPeriod ≤ 500
  time   : 200 ≤ s.repeatHold.holdTime ∧ s.repeatHold.holdTime ≤ 5000
  window : 10 ≤ s.repeatHold.chordWindow ∧ s.repeatHold.chordWindow ≤ 250
  quiet  : s.power.state = .asleep → s.queue = []

/-- The whole key path is sound. -/
structure KeysSound (s : State) : Prop where
  scan       : ScanSound s
  records    : RecordsSound s
  downSet    : DownSetSound s
  chords     : ChordsSound s
  repeatHold : RepeatHoldSound s

/-! ### Encoders, faults, link, dispatcher and notices -/

/-- One channel: 1, 2 or 4 steps per detent, an interval of 10 to 500 ms, an accumulator short of a detent in either
direction, a delta within -127 to +127, and a sample due only where samples are taken (R95, R96, R99). -/
structure EncoderChannel.Sound (e : EncoderChannel) : Prop where
  steps    : e.stepsPerDetent = 1 ∨ e.stepsPerDetent = 2 ∨ e.stepsPerDetent = 4
  interval : 10 ≤ e.interval ∧ e.interval ≤ 500 ∧ e.interval % 10 = 0
  acc      : -(e.stepsPerDetent : Int) < e.acc ∧ e.acc < e.stepsPerDetent
  delta    : -127 ≤ e.delta ∧ e.delta ≤ 127
  due      : e.sampleDue = true → e.enabled = true

/-- Both channels are sound. -/
structure EncodersSound (s : State) : Prop where
  e0 : s.encoders.e0.Sound
  e1 : s.encoders.e1.Sound

/-- Every fault count is 0 to 255, and a count of 0 stands with a last index of 0 (R166, R177). -/
structure FaultSound (f : FaultRecord) : Prop where
  ghost      : f.ghostCount ≤ 255
  rollover   : f.rolloverCount ≤ 255
  e0         : f.e0Count ≤ 255
  e1         : f.e1Count ≤ 255
  noGhost    : f.ghostCount = 0 → f.lastGhost = 0
  noRollover : f.rolloverCount = 0 → f.lastRollover = 0

/-- The partial frame the receiver holds is one its state allows (R139, R140). -/
def RxState.sound : RxState → Prop
  | .hunt => True
  | .length => True
  | .body len got => 2 ≤ len ∧ len ≤ 40 ∧ got.length < len
  | .check len got => 2 ≤ len ∧ len ≤ 40 ∧ got.length = len

/-- The gap timer runs exactly outside HUNT (R140, R142), the consecutive-reply count is 0 to 2 (R147), and no counter is
above 65535 (R149). -/
structure LinkSound (l : LinkBlock) : Prop where
  partialFrame : l.rx.sound
  gap          : l.gapTimer.isSome = true ↔ l.rx ≠ .hunt
  run          : l.replyRun ≤ 2
  counters     : ∀ n ∈ [l.counters.framingErrors, l.counters.lengthErrors, l.counters.checkErrors, l.counters.gapAborts,
    l.counters.queueFull, l.counters.framesDropped, l.counters.unmatchedAcks, l.counters.retransmissions], n ≤ 65535

/-- Neither list is overfull, the reserved place counted (R151, R152); the pending configuration stands exactly in
SCAN_WAIT (R11), SLEEP_WAIT goes with SLEEP_PENDING (R130, R132), WAIT_REPLY_SPACE has a request to wait with (R158), and
the dispatcher is IDLE with no request waiting while the part is ASLEEP (R132, R133). -/
structure DispatchSound (s : State) : Prop where
  requests   : s.dispatch.requests.length ≤ 4
  replies    : s.dispatch.replies.length + (if s.dispatch.phase = .scanWait then 1 else 0) ≤ 4
  scanWait   : s.scan.pendingScan.isSome = true ↔ s.dispatch.phase = .scanWait
  sleepWait  : s.power.state = .sleepPending ↔ s.dispatch.phase = .sleepWait
  replySpace : s.dispatch.phase = .waitReplySpace → s.dispatch.requests ≠ []
  asleep     : s.power.state = .asleep → s.dispatch.phase = .idle ∧ s.dispatch.requests = []

/-- At most 3 notices are outstanding, with consecutive sequence numbers up to the last one given and 1 to 4 tries; W and
the timeout are in range; the acknowledgement timer runs only while RUNNING with a notice outstanding; nothing is
outstanding while ASLEEP (R168, R170, R172, R174). -/
structure NoticesSound (s : State) : Prop where
  window      : 1 ≤ s.notices.window ∧ s.notices.window ≤ 3
  timeout     : 20 ≤ s.notices.timeout ∧ s.notices.timeout ≤ 1000
  atMost      : s.notices.outstanding.length ≤ 3
  consecutive : s.notices.outstanding.map OutstandingNotice.seq =
    (List.range s.notices.outstanding.length).map fun i =>
      s.notices.nextSeq - BitVec.ofNat 8 (s.notices.outstanding.length - i)
  tries       : ∀ n ∈ s.notices.outstanding, 1 ≤ n.tries ∧ n.tries ≤ 4
  timer       : s.notices.timer.isSome = true → s.notices.state = .running ∧ s.notices.outstanding ≠ []
  asleep      : s.power.state = .asleep → s.notices.outstanding = []

end Sys2Proof.Machine
end

