-- ==== Sys2Proof/Certificates/Slice0/Obligations.lean ====
section
/-!
DEFINITION. The statements for the provers. Each docstring names the rules of the spec the statement comes from. Where a
clause is the model's own choice it says so and names the log entry. An equation `exec c s = .next …` states the whole next
state, so it is the command's completion and its frame at once. `State.live` says that NRST is high and that no report of a
valid frame is owed; `NrstHeldLowStopsThePart` and `ArrivalsAreQueuedAnsweredOrDropped` state what happens otherwise.
-/
open Sys2Proof Sys2Proof.Machine

/-! ### The queue of commands, resets and panel time -/

/-- The step takes the command at the front of the queue and runs it on the state with the rest of the queue. On an empty
queue the part idles: the model's choice (log 2). -/
def Obligations.StepRunsTheFrontCommand : Prop :=
  (∀ (c : Instr) (rest : List Instr) (s : State), s.pending = c :: rest → step s = exec c { s with pending := rest }) ∧
    ∀ s : State, s.pending = [] → step s = .next s

/-- HARDWARE_RESET with cause POWER or PIN completes in every state and leaves every block at the value its rule states
(R8, R10, R16, R18, R52, R71, R83, R95, R110 to R114, R117, R129, R137, R149, R151, R152, R156, R168), with READY raised
with its own cause (R167). That slot 0 has not started yet and starts with the next SLOT_START is the model's choice (log
20; R10 says that it starts when reset ends). The wait for RXD to be sampled high (R143) is the model's field `lineHeld`
(log 9), and `sampleDue`, `reportOwed` and `cutSlot` are the model's fields (log 5, 7, 27). A cause SOFT is no cause of
a hardware reset (R167), and such a command is no event: the model's choice (log 17). The last clause says that the
model's reset state is what cause POWER leaves; the pin levels in it are the model's choice (log 8). -/
def Obligations.HardwareResetLeavesTheResetValues : Prop :=
  (∀ (cause : ReadyCause) (spd : Bool) (pins : EncoderPins) (s : State), cause = .power ∨ cause = .pin →
    ∃ t, exec (.hardwareReset cause spd pins) s = .next t ∧
      t.scan = { config := { positions := 8, slotUnits := 4, dp := 3, dr := 3, limit := 4, ghostFilter := true,
                             keyScanning := true },
                 pendingScan := none, slotIndex := 0, slotRunning := false, cutSlot := none,
                 panelTime := 0#16 } ∧
      t.lines = { position := 0xFF#8, segment := 0x0000#16, lit := 0, swept := 0xFF#8 } ∧
      t.pins = { returns := s.pins.returns, e0 := pins.e0, e1 := pins.e1, spd := spd, nrst := true } ∧
      (∀ k : KeyIndex, t.mapEntry k = { code := BitVec.ofNat 8 k.val, enabled := true, repeats := false,
                                        releaseReport := true, holdReport := false }) ∧
      (∀ k : KeyIndex, t.record k = { phase := .up, contact := false, count := 0, blockReason := none, chorded := false,
                                      admission := none }) ∧
      t.keys.downSet = [] ∧ (∀ i : SlotIndex, t.chords.slots[i] = none) ∧ t.chords.held = [] ∧ t.chords.window = none ∧
      t.repeatHold.repeatDelay = 500 ∧ t.repeatHold.repeatPeriod = 100 ∧ t.repeatHold.holdTime = 1000 ∧
      t.repeatHold.chordWindow = 50 ∧ t.repeatHold.owner = none ∧ t.repeatHold.timer = none ∧
      (∀ k : KeyIndex, t.repeatHold.holdTimers[k] = none) ∧ t.queue = [] ∧
      t.encoders.e0 = { enabled := true, stepsPerDetent := 4, interval := 50, quad := pins.e0, acc := 0, position := 0#16,
                        delta := 0, overFlag := false, timer := none, sampleDue := false } ∧
      t.encoders.e1 = { enabled := true, stepsPerDetent := 4, interval := 50, quad := pins.e1, acc := 0, position := 0#16,
                        delta := 0, overFlag := false, timer := none, sampleDue := false } ∧
      (∀ p : Position, t.display.buffer[p] = { mode := .blank, point := false, blink := false, dim := false }) ∧
      t.display.bankA.toList.take 16 =
        [0x003F#16, 0x0006#16, 0x005B#16, 0x004F#16, 0x0066#16, 0x006D#16, 0x007D#16, 0x0007#16,
         0x007F#16, 0x006F#16, 0x0077#16, 0x007C#16, 0x0039#16, 0x005E#16, 0x0079#16, 0x0071#16] ∧
      (∀ c : Fin 64, 16 ≤ c.val → t.display.bankA[c] = 0x0000#16) ∧ (∀ c : Fin 64, t.display.bankB[c] = 0x0000#16) ∧
      t.display.enable = true ∧ t.display.brightness = 8 ∧ t.display.blinkHalf = 4 ∧ t.display.blinkOn = true ∧
      t.display.blinkTimer = some 500#16 ∧ t.display.testTimer = none ∧
      (∀ p : Position, t.display.shown[p] = 0x0000#16) ∧
      t.power = { state := .awake, mask := { keys := true, e0 := true, e1 := true }, linkSeen := false, sweep := none } ∧
      t.link = { rate := if spd = true then .b115200 else .b19200, rx := .hunt, gapTimer := none, lineHeld := true,
                 reportOwed := false, tx := none, replyRun := 0,
                 counters := { framingErrors := 0, lengthErrors := 0, checkErrors := 0, gapAborts := 0, queueFull := 0,
                               framesDropped := 0, unmatchedAcks := 0, retransmissions := 0 } } ∧
      t.dispatch = { requests := [], replies := [], phase := .idle } ∧
      t.notices = { mask := { panelFault := true, keys := true, encoder := true }, window := 1, timeout := 100,
                    nextSeq := 0#8, state := .running, outstanding := [], timer := none, ready := some cause, wake := none,
                    fault := { ghostCount := 0, lastGhost := 0, rolloverCount := 0, lastRollover := 0, e0Count := 0,
                               e1Count := 0 } } ∧
      t.pending = s.pending) ∧
    (∀ (spd : Bool) (pins : EncoderPins) (s : State), exec (.hardwareReset .soft spd pins) s = .next s) ∧
    ∀ s : State,
      exec (.hardwareReset .power Config.spdAtPowerOn ⟨Config.encoderPinsAtPowerOn, Config.encoderPinsAtPowerOn⟩) s =
        .next { State.reset with
          pins := { State.reset.pins with returns := s.pins.returns }
          pending := s.pending }

/-- NRST going low ends the slot, releases every line, cuts the frame on TXD off and leaves TXD high at every bit time
(R10, R137, R145). While it is low no other command but HARDWARE_RESET has any effect: for all but received bytes and
lines this is the model's choice (log 16). -/
def Obligations.NrstHeldLowStopsThePart : Prop :=
  (∀ s : State, ∃ t, exec .nrstHeldLow s = .next t ∧
    t = { s with
      pins.nrst := false
      link.tx := none
      scan.slotRunning := false
      lines := { position := 0xFF#8, segment := 0x0000#16, lit := 0, swept := 0xFF#8 } } ∧ t.txdBits = [] ∧
    ∀ bit, t.txdLevel bit = true) ∧
    ∀ (c : Instr) (s : State), s.pins.nrst = false → (∀ cause spd pins, c ≠ .hardwareReset cause spd pins) →
      c ≠ .nrstHeldLow → exec c s = .next s

/-- A millisecond tick advances panel time by 1, wrapping from 65535 to 0, in every power state, and changes no other
state of the manual (R8). Unless ASLEEP it makes the sample of each enabled channel due (R96), which the model records in
its own field `sampleDue` (log 5). It ends the instant that a RESTART shares with a key sample, for which the model's own
field `cutSlot` waits (log 27). -/
def Obligations.TickAdvancesPanelTime : Prop :=
  ∀ s : State, s.live →
    let owed (e : EncoderChannel) : EncoderChannel :=
      { e with sampleDue := if e.enabled = true ∧ s.power.state ≠ .asleep then true else e.sampleDue }
    ∃ t, exec .millisecondTick s = .next t ∧
      t = { s with
        scan.panelTime := t.scan.panelTime
        scan.cutSlot := none
        encoders.e0 := owed s.encoders.e0
        encoders.e1 := owed s.encoders.e1 } ∧
      t.scan.panelTime.toNat = if s.scan.panelTime.toNat = 65535 then 0 else s.scan.panelTime.toNat + 1

/-- A timer of `ms` milliseconds, up to the longest of 5,000, started at panel time `t`, is not due before the tick that
brings panel time to `t + ms`, and is due at it, across the wrap (R9). That an expiry not yet taken stays due is the
model's choice (log 4). -/
def Obligations.TimerIsDueFromItsExpiryTick : Prop :=
  (∀ (t : Time) (ms elapsed : Nat), 1 ≤ ms → ms ≤ 5000 → elapsed < 32768 →
    (timerDue (startTimer t ms) (t + BitVec.ofNat 16 elapsed) = true ↔ ms ≤ elapsed)) ∧
    ∀ now : Time, timerDue none now = false

/-! ### The scan engine -/

/-- SLOT_START drives the slot's position line low and the other seven high, and drives and records the pattern of the
first case of R115 that applies, for the lit fraction of R116 (R3, R115, R116, R117). It is no event while a slot runs or
the part is ASLEEP (R1; log 1). That no key sample follows a RESTART any more is the model's field `cutSlot` (log 27). -/
def Obligations.SlotStartDrivesTheComposedPattern : Prop :=
  (∀ s : State, s.live → s.power.state ≠ .asleep → s.scan.slotRunning = false →
    let p := s.scan.slotIndex
    let r := s.display.buffer[p]
    let entry : Pattern :=
      match r.mode with
      | .blank => 0x0000#16
      | .glyph .a code => s.display.bankA[code]
      | .glyph .b code => s.display.bankB[code]
      | .raw pattern => pattern
    let pattern : Pattern :=
      if s.display.enable = false then 0x0000#16
      else if s.display.testTimer.isSome = true then 0xFFFF#16
      else if r.blink = true ∧ s.display.blinkOn = false then 0x0000#16
      else if r.mode = .blank then 0x0000#16
      else if r.point = true then entry ||| 0x4000#16 else entry
    let lit :=
      if s.display.testTimer.isSome = true then 16
      else if r.dim = true then s.display.brightness / 2 + s.display.brightness % 2
      else s.display.brightness
    exec .slotStart s = .next { s with
      scan.slotRunning := true
      scan.cutSlot := none
      lines := { position := BitVec.ofNat 8 (255 - 2 ^ p.val), segment := pattern, lit := lit, swept := 0xFF#8 }
      display.shown := s.display.shown.set p pattern }) ∧
    ∀ s : State, s.live → s.power.state = .asleep ∨ s.scan.slotRunning = true → exec .slotStart s = .next s

/-- SLOT_END releases the lines and advances the slot index (R4). With key scanning off it does nothing else. With key
scanning on it first handles the sample event whole, in two steps (R5): the contact flags of the position's eight keys
become what their return lines read, low for closed, all eight together; then, on that state, the eight keys' debounce
steps are run in ascending return line, each whole before the next (R5, R19). No other key's flag changes (R5, R7); keys
of other positions keep everything but the chorded flag that a chord's completion may set (R5, R58); the key map, the
chord slots, the timing settings, the encoders, the display and the link side are untouched. The frame boundary with a
pending configuration is in `FrameBoundarySettlesSetScan`. A key sample at the instant of a RESTART taken first runs the
same two steps on the restarted part, and nothing else of the slot's end (R164); that it is of the position of the slot that
RESTART ended, in the model's field `cutSlot`, is the model's choice (log 27). With no slot running and no such sample, or
ASLEEP, it is no event: the model's choice (log 1). -/
def Obligations.SlotEndTakesTheSample : Prop :=
  (∀ (returns : Byte) (s : State), s.live → s.power.state ≠ .asleep → s.scan.slotRunning = true →
    (s.scan.slotIndex.val + 1 = s.scan.config.positions → s.scan.pendingScan = none) →
    let p := s.scan.slotIndex
    let read : State := { s with
      pins.returns := returns
      keys.table := Vector.ofFn fun k : KeyIndex =>
        if k.val / 8 = p.val then { s.record k with contact := !returns.getLsbD (k.val % 8) } else s.record k }
    let lines : List ReturnLine := [0, 1, 2, 3, 4, 5, 6, 7]
    let examined : State := lines.foldl (fun u l => debounceStep (keyAt p l) u) read
    let sampled : State := if s.scan.config.keyScanning = true then examined else { s with pins.returns := returns }
    ∃ t, exec (.slotEnd returns) s = .next t ∧
      t = { sampled with
        scan := { s.scan with
          slotRunning := false
          slotIndex := if p.val + 1 < s.scan.config.positions then p + 1 else 0 }
        lines := { position := 0xFF#8, segment := 0x0000#16, lit := 0, swept := 0xFF#8 } } ∧
      t.pins = { s.pins with returns := returns } ∧
      (s.scan.config.keyScanning = true →
        (∀ k : KeyIndex, (t.record k).contact =
          if k.val / 8 = p.val then !returns.getLsbD (k.val % 8) else (s.record k).contact) ∧
        (∀ k : KeyIndex, k.val / 8 ≠ p.val →
          { t.record k with chorded := false } = { s.record k with chorded := false }) ∧
        t.keys.map = s.keys.map ∧ t.chords.slots = s.chords.slots ∧
        { t.repeatHold with owner := none, timer := none, holdTimers := s.repeatHold.holdTimers } =
          { s.repeatHold with owner := none, timer := none } ∧
        t.encoders = s.encoders ∧ t.display = s.display ∧ t.power = s.power ∧ t.link = s.link ∧ t.dispatch = s.dispatch ∧
        { t.notices with fault := s.notices.fault } = s.notices ∧
        t.notices.fault.e0Count = s.notices.fault.e0Count ∧ t.notices.fault.e1Count = s.notices.fault.e1Count ∧
        t.pending = s.pending)) ∧
  (∀ (returns : Byte) (p : Position) (s : State), s.live → s.power.state ≠ .asleep → s.scan.slotRunning = false →
    s.scan.cutSlot = some p →
    let read : State := { s with
      pins.returns := returns
      scan.cutSlot := none
      keys.table := Vector.ofFn fun k : KeyIndex =>
        if k.val / 8 = p.val then { s.record k with contact := !returns.getLsbD (k.val % 8) } else s.record k }
    let lines : List ReturnLine := [0, 1, 2, 3, 4, 5, 6, 7]
    ∃ t, exec (.slotEnd returns) s = .next t ∧ t = lines.foldl (fun u l => debounceStep (keyAt p l) u) read ∧
      t.scan = { s.scan with cutSlot := none } ∧ t.lines = s.lines ∧
      ∀ k : KeyIndex, (t.record k).contact =
        if k.val / 8 = p.val then !returns.getLsbD (k.val % 8) else (s.record k).contact) ∧
  ∀ (returns : Byte) (s : State), s.live →
    s.power.state = .asleep ∨ (s.scan.slotRunning = false ∧ s.scan.cutSlot = none) →
    exec (.slotEnd returns) s = .next s

/-- At the frame boundary, after the whole sample event of the last slot (R5), a pending configuration is applied and
answered OK if every key is UP, and discarded and answered KEY_ACTIVE otherwise; the dispatcher is then free (R6, R13). An
applied configuration sets the flags of positions no longer scanned open, and all flags if key scanning is set off (R14),
and the shown patterns of positions N to 7 to 0x0000 (R117). -/
def Obligations.FrameBoundarySettlesSetScan : Prop :=
  ∀ (returns : Byte) (s : State) (q : PendingScan), s.live → s.power.state ≠ .asleep →
    s.scan.slotRunning = true → s.scan.slotIndex.val + 1 = s.scan.config.positions → s.scan.pendingScan = some q →
    let read : State := { s with
      pins.returns := returns
      keys.table := Vector.ofFn fun k : KeyIndex =>
        if k.val / 8 = s.scan.slotIndex.val then { s.record k with contact := !returns.getLsbD (k.val % 8) }
        else s.record k }
    let lines : List ReturnLine := [0, 1, 2, 3, 4, 5, 6, 7]
    let examined : State := lines.foldl (fun v l => debounceStep (keyAt s.scan.slotIndex l) v) read
    let u : State := if s.scan.config.keyScanning = true then examined else { s with pins.returns := returns }
    let reply (code : Byte) : DispatchBlock :=
      { requests := u.dispatch.requests
        replies := u.dispatch.replies ++ [{ kind := 0x84#8, tag := q.tag, payload := [code] }]
        phase := if u.dispatch.requests ≠ [] ∧ 3 ≤ u.dispatch.replies.length then .waitReplySpace else .idle }
    ((∀ k : KeyIndex, (u.record k).phase = .up) →
      exec (.slotEnd returns) s = .next { u with
        scan := { u.scan with config := q.config, pendingScan := none, slotIndex := 0, slotRunning := false }
        lines := { position := 0xFF#8, segment := 0x0000#16, lit := 0, swept := 0xFF#8 }
        keys.table := Vector.ofFn fun k : KeyIndex =>
          if q.config.keyScanning = false ∨
              (q.config.positions < u.scan.config.positions ∧ q.config.positions ≤ k.val / 8) then
            { u.record k with contact := false }
          else u.record k
        display.shown := Vector.ofFn fun p : Position =>
          if q.config.positions ≤ p.val then 0x0000#16 else u.display.shown[p]
        dispatch := reply 0x00#8 }) ∧
    ((∃ k : KeyIndex, (u.record k).phase ≠ .up) →
      exec (.slotEnd returns) s = .next { u with
        scan := { u.scan with pendingScan := none, slotIndex := 0, slotRunning := false }
        lines := { position := 0xFF#8, segment := 0x0000#16, lit := 0, swept := 0xFF#8 }
        dispatch := reply 0x03#8 })

/-! ### The key path -/

/-- The debounce step of an enabled key in UP (R20): a closed sample makes it MAKING with count 1, or, with Dp 1, confirms
the press in the same step, and the key is not left in MAKING; an open sample leaves it UP with count 0. -/
def Obligations.DebounceStepOfAnEnabledUpKey : Prop :=
  ∀ (k : KeyIndex) (s : State), (s.mapEntry k).enabled = true → (s.record k).phase = .up →
    ((s.record k).contact = true → s.scan.config.dp ≠ 1 →
      debounceStep k s = { s with keys.table := s.keys.table.set k { s.record k with phase := .making, count := 1 } }) ∧
    ((s.record k).contact = true → s.scan.config.dp = 1 →
      debounceStep k s = pressAdmission k s ∧ ((debounceStep k s).record k).phase ≠ .making) ∧
    ((s.record k).contact = false →
      debounceStep k s = { s with keys.table := s.keys.table.set k { s.record k with phase := .up, count := 0 } })

/-- The debounce step in the other states (R21 to R25): a run of closed samples confirms the press at Dp, a run of open
ones the release at Dr, a sample of the old level ends the run, a BLOCKED key returns to UP in silence at Dr open samples,
and a disabled key that is not BLOCKED takes no step. -/
def Obligations.DebounceStepTable : Prop :=
  ∀ (k : KeyIndex) (s : State),
    let r := s.record k
    let put (phase : KeyPhase) (count : Nat) : State :=
      { s with keys.table := s.keys.table.set k { r with phase := phase, count := count } }
    ((s.mapEntry k).enabled = false → r.phase ≠ .blocked → debounceStep k s = s) ∧
    (r.phase = .blocked →
      debounceStep k s =
        if r.contact = true then put .blocked 0
        else if r.count + 1 = s.scan.config.dr then
          { s with keys.table := s.keys.table.set k { r with phase := .up, count := 0, blockReason := none } }
        else put .blocked (r.count + 1)) ∧
    ((s.mapEntry k).enabled = true →
      (r.phase = .making → debounceStep k s =
        if r.contact = false then put .up 0
        else if r.count + 1 = s.scan.config.dp then pressAdmission k s else put .making (r.count + 1)) ∧
      (r.phase = .down → debounceStep k s =
        if r.contact = true then put .down 0
        else if s.scan.config.dr = 1 then releaseKey k s else put .breaking 1) ∧
      (r.phase = .breaking → debounceStep k s =
        if r.contact = true then put .down 0
        else if r.count + 1 = s.scan.config.dr then releaseKey k s else put .breaking (r.count + 1)))

/-- Press admission takes the first outcome that applies (R36): with the filter on, a key that completes a rectangle of
closed contact flags is BLOCKED as a GHOST and counted (R37, R39, R47); a key that finds L keys in the down-set is BLOCKED
by ROLLOVER and counted (R42, R47); any other is admitted at the end of the down-set with its admission time (R43), and
one that is no member key, with no press held back, has its PRESS handed on and its repeat and hold begun (R43, R73, R77).
With the filter off there is no ghost check (R40). -/
def Obligations.PressAdmissionOutcomes : Prop :=
  ∀ (k : KeyIndex) (s : State),
    let closed (p : Position) (l : ReturnLine) : Prop := (s.record (keyAt p l)).contact = true
    let rectangle : Prop := ∃ (p' : Position) (l' : ReturnLine), p' ≠ keyPosition k ∧ l' ≠ keyLine k ∧
      closed (keyPosition k) l' ∧ closed p' (keyLine k) ∧ closed p' l'
    let ghost : Prop := s.scan.config.ghostFilter = true ∧ rectangle
    let blocked (reason : BlockReason) : KeyRecord :=
      { s.record k with phase := .blocked, count := 0, blockReason := some reason }
    let up (n : Nat) : Nat := if n < 255 then n + 1 else n
    (ghost → pressAdmission k s = { s with
      keys.table := s.keys.table.set k (blocked .ghost)
      notices.fault.ghostCount := up s.notices.fault.ghostCount
      notices.fault.lastGhost := k }) ∧
    (¬ ghost → s.scan.config.limit ≤ s.keys.downSet.length → pressAdmission k s = { s with
      keys.table := s.keys.table.set k (blocked .rollover)
      notices.fault.rolloverCount := up s.notices.fault.rolloverCount
      notices.fault.lastRollover := k }) ∧
    (¬ ghost → s.keys.downSet.length < s.scan.config.limit →
      let admitted : State := { s with
        keys.table := s.keys.table.set k { s.record k with phase := .down, count := 0, admission := some s.scan.panelTime }
        keys.downSet := s.keys.downSet ++ [k] }
      ((∃ (i : SlotIndex) (c : ChordSlot), s.chords.slots[i] = some c ∧ k ∈ c.members) →
        pressAdmission k s = admitMember k admitted) ∧
      ((∀ (i : SlotIndex) (c : ChordSlot), s.chords.slots[i] = some c → k ∉ c.members) → s.chords.held ≠ [] →
        pressAdmission k s = handPress k s.scan.panelTime (flushHeld admitted)) ∧
      ((∀ (i : SlotIndex) (c : ChordSlot), s.chords.slots[i] = some c → k ∉ c.members) → s.chords.held = [] →
        pressAdmission k s = { admitted with
          queue := appendEvent (.press (s.mapEntry k).code k s.scan.panelTime) s.queue
          repeatHold.owner :=
            if (s.mapEntry k).repeats = true then some { key := k, phase := .delay } else s.repeatHold.owner
          repeatHold.timer :=
            if (s.mapEntry k).repeats = true then some (s.scan.panelTime + BitVec.ofNat 16 s.repeatHold.repeatDelay)
            else s.repeatHold.timer
          repeatHold.holdTimers :=
            if (s.mapEntry k).holdReport = true then
              s.repeatHold.holdTimers.set k (some (s.scan.panelTime + BitVec.ofNat 16 s.repeatHold.holdTime))
            else s.repeatHold.holdTimers }))

/-- Release confirmation and the release path (R27, R28, R29). The key is UP and out of the down-set; a press that was
held back is flushed first; a chorded key's release is silent and clears its flag; any other queues its RELEASE if its map
entry asks for one; then its repeat ownership and its hold timer end. -/
def Obligations.ReleaseRunsTheReleasePath : Prop :=
  ∀ (k : KeyIndex) (s : State),
    let up : State := { s with
      keys.table := s.keys.table.set k { s.record k with phase := .up, count := 0, admission := none }
      keys.downSet := s.keys.downSet.erase k }
    let flushed : State := if k ∈ s.heldKeys then flushHeld up else up
    releaseKey k s = { flushed with
      keys.table := s.keys.table.set k
        { s.record k with phase := .up, count := 0, admission := none, chorded := false }
      queue :=
        if (s.record k).chorded = false ∧ (s.mapEntry k).releaseReport = true then
          appendEvent (.release (s.mapEntry k).code k s.scan.panelTime) flushed.queue
        else flushed.queue
      repeatHold.owner :=
        if flushed.repeatHold.owner.map RepeatOwner.key = some k then none else flushed.repeatHold.owner
      repeatHold.timer :=
        if flushed.repeatHold.owner.map RepeatOwner.key = some k then none else flushed.repeatHold.timer
      repeatHold.holdTimers := flushed.repeatHold.holdTimers.set k none }

/-- A flush hands every held press on as a PRESS with its admission time, oldest first, whatever the queue does with it;
the last of them with the repeat flag is repeat owner in phase DELAY; each with hold-report starts its hold timer now; the
matcher is IDLE; and nothing else changes (R59, R73, R77). -/
def Obligations.FlushHandsOnEveryHeldPress : Prop :=
  ∀ s : State,
    let repeating := (s.chords.held.filter fun h => (s.mapEntry h.key).repeats).getLast?
    flushHeld s = { s with
      queue := s.chords.held.foldl (fun q h => appendEvent (.press (s.mapEntry h.key).code h.key h.time) q) s.queue
      chords.held := []
      chords.window := none
      repeatHold.owner :=
        match repeating with
        | some h => some { key := h.key, phase := .delay }
        | none => s.repeatHold.owner
      repeatHold.timer :=
        match repeating with
        | some _ => some (s.scan.panelTime + BitVec.ofNat 16 s.repeatHold.repeatDelay)
        | none => s.repeatHold.timer
      repeatHold.holdTimers := Vector.ofFn fun k : KeyIndex =>
        if k ∈ s.heldKeys ∧ (s.mapEntry k).holdReport = true then
          some (s.scan.panelTime + BitVec.ofNat 16 s.repeatHold.holdTime)
        else s.repeatHold.holdTimers[k] }

/-- CHORD_WINDOW_EXPIRY. If the held keys are a slot's member set, its CHORD is handed on with the newest held admission's
time, every held key takes the chorded flag, and the matcher is IDLE (R58, R63); otherwise the held list is flushed (R63).
Before its expiry tick it is no event (R9; log 1). -/
def Obligations.ChordWindowExpirySettlesTheHeldList : Prop :=
  (∀ s : State, s.live → ChordsSound s → timerDue s.chords.window s.scan.panelTime = true →
    (∀ (i : SlotIndex) (c : ChordSlot) (older : List HeldPress) (newest : HeldPress), s.chords.slots[i] = some c →
      (∀ k, k ∈ c.members ↔ k ∈ s.heldKeys) → s.chords.held = older ++ [newest] →
      exec .chordWindowExpiry s = .next { s with
        queue := appendEvent (.chord c.code i newest.time) s.queue
        keys.table := Vector.ofFn fun k : KeyIndex =>
          if k ∈ s.heldKeys then { s.record k with chorded := true } else s.record k
        chords.held := []
        chords.window := none }) ∧
    ((∀ (i : SlotIndex) (c : ChordSlot), s.chords.slots[i] = some c → ¬ (∀ k, k ∈ c.members ↔ k ∈ s.heldKeys)) →
      exec .chordWindowExpiry s = .next (flushHeld s))) ∧
    ∀ s : State, s.live → timerDue s.chords.window s.scan.panelTime = false → exec .chordWindowExpiry s = .next s

/-- The matcher's decision on a member key's admission, with H the held keys and the new key (R55 to R58): H equals a
slot's member set and no slot's strictly contains it: that chord completes; H fits into some slot's member set otherwise:
it keeps collecting, the window timer started if the matcher was IDLE; H fits into none: it flushes, the new key
included. -/
def Obligations.MemberAdmissionIsDecidedByTheTable : Prop :=
  ∀ (k : KeyIndex) (s : State), ChordsSound s →
    let h := s.heldKeys ++ [k]
    let fits (c : ChordSlot) : Prop := ∀ x ∈ h, x ∈ c.members
    let equals (c : ChordSlot) : Prop := fits c ∧ ∀ x ∈ c.members, x ∈ h
    let joined : State := { s with
      chords.held := s.chords.held ++ [{ key := k, time := s.scan.panelTime }]
      chords.window :=
        if s.chords.held = [] then some (s.scan.panelTime + BitVec.ofNat 16 s.repeatHold.chordWindow)
        else s.chords.window }
    (∀ (i : SlotIndex) (c : ChordSlot), s.chords.slots[i] = some c → equals c →
      (∀ (j : SlotIndex) (d : ChordSlot), s.chords.slots[j] = some d → fits d → equals d) →
      admitMember k s = { s with
        queue := appendEvent (.chord c.code i s.scan.panelTime) s.queue
        keys.table := Vector.ofFn fun x : KeyIndex =>
          if x ∈ h then { s.record x with chorded := true } else s.record x
        chords.held := []
        chords.window := none }) ∧
    ((∃ (i : SlotIndex) (c : ChordSlot), s.chords.slots[i] = some c ∧ fits c ∧ ¬ equals c) →
      admitMember k s = joined) ∧
    ((∀ (i : SlotIndex) (c : ChordSlot), s.chords.slots[i] = some c → ¬ fits c) → admitMember k s = flushHeld joined)

/-- REPEAT_TIMER_EXPIRY hands one REPEAT of the owner on: it raises the count of the key's record wherever it stands, up
to 255, or goes through the append rule as a new record with count 1; the phase is PERIOD and the timer runs for the
repeat period from now (R74, R76, R88). HOLD_TIMER_EXPIRY appends one HOLD and leaves the timer stopped (R78). Before the
expiry tick neither is an event (R9; log 1). -/
def Obligations.RepeatAndHoldExpiriesHandOnTheirEvents : Prop :=
  (∀ (o : RepeatOwner) (s : State), s.live → s.repeatHold.owner = some o →
    timerDue s.repeatHold.timer s.scan.panelTime = true →
    let after (q : List QueueEntry) : State := { s with
      queue := q
      repeatHold.owner := some { key := o.key, phase := .period }
      repeatHold.timer := some (s.scan.panelTime + BitVec.ofNat 16 s.repeatHold.repeatPeriod) }
    (∀ (older newer : List QueueEntry) (code : Byte) (time : Time) (count : Nat),
      s.queue = older ++ .repeated code o.key time count :: newer → (∀ e ∈ older, e.repeatKey? ≠ some o.key) →
      exec .repeatTimerExpiry s =
        .next (after (older ++ .repeated code o.key time (if count < 255 then count + 1 else count) :: newer))) ∧
    ((∀ e ∈ s.queue, e.repeatKey? ≠ some o.key) →
      exec .repeatTimerExpiry s =
        .next (after (appendEvent (.repeated (s.mapEntry o.key).code o.key s.scan.panelTime 1) s.queue)))) ∧
  (∀ s : State, s.live → s.repeatHold.owner = none ∨ timerDue s.repeatHold.timer s.scan.panelTime = false →
    exec .repeatTimerExpiry s = .next s) ∧
  (∀ (k : KeyIndex) (s : State), s.live → timerDue s.repeatHold.holdTimers[k] s.scan.panelTime = true →
    exec (.holdTimerExpiry k) s = .next { s with
      queue := appendEvent (.hold (s.mapEntry k).code k s.scan.panelTime) s.queue
      repeatHold.holdTimers := s.repeatHold.holdTimers.set k none }) ∧
  ∀ (k : KeyIndex) (s : State), s.live → timerDue s.repeatHold.holdTimers[k] s.scan.panelTime = false →
    exec (.holdTimerExpiry k) s = .next s

/-- The append rule (R86), row by row. -/
def Obligations.AppendRuleRowByRow : Prop :=
  ∀ (e : QueueEntry) (q : List QueueEntry),
    (q.length ≤ 14 → appendEvent e q = q ++ [e]) ∧
    (∀ (older : List QueueEntry) (n : Nat), q = older ++ [.lost n] → q.length = 15 ∨ q.length = 16 →
      appendEvent e q = older ++ [.lost (if n < 255 then n + 1 else n)]) ∧
    (∀ (older : List QueueEntry) (newest : QueueEntry), q = older ++ [newest] → newest.isLost = false → q.length = 15 →
      appendEvent e q = q ++ [.lost 1])

/-- The drain of the queue into a KEYS notice (R90): what is taken and what is left are the queue, in its order; the taken
entries' encoding is at most 37 bytes; the first entry left would carry it above 37; a queue that holds something gives
something; and of a sound queue at most 11 entries are taken (R87, R90). -/
def Obligations.DrainTakesTheLongestRunWithin37Bytes : Prop :=
  ∀ q : List QueueEntry,
    let taken := (drainQueue 37 q).1
    let left := (drainQueue 37 q).2
    taken ++ left = q ∧ (taken.flatMap QueueEntry.bytes).length ≤ 37 ∧
      (∀ (e : QueueEntry) (rest : List QueueEntry), left = e :: rest →
        37 < ((taken ++ [e]).flatMap QueueEntry.bytes).length) ∧
      (q ≠ [] → taken ≠ []) ∧ (QueueSound q → taken.length ≤ 11)

/-! ### Encoders, display timers, sleep and wake -/

/-- ENCODER_SAMPLE of an enabled channel whose tick has come, while AWAKE or SLEEP_PENDING: one sample a tick (R96 to
R101); that a tick's sample is due is the model's field `sampleDue` (log 5). The same pair changes nothing; a double
change takes the new pair and counts one fault of the channel; one step forward or backward moves the accumulator, and at
plus or minus the steps per detent one detent moves the position, wrapping, and the delta, which stays at its limit with
OVER set. A disabled channel, any channel while ASLEEP, and a channel whose last tick has been sampled takes no sample
(R96, R104). -/
def Obligations.EncoderSampleCountsStepsAndDetents : Prop :=
  (∀ (ch : Channel) (new : QuadPair) (s : State), s.live → (s.channel ch).enabled = true →
    (s.channel ch).sampleDue = true → s.power.state ≠ .asleep →
    let e : EncoderChannel := { s.channel ch with sampleDue := false }
    let u := presentPair ch new s
    let up (n : Nat) : Nat := if n < 255 then n + 1 else n
    (new = e.quad → exec (.encoderSample ch new) s = .next (u.setChannel ch e)) ∧
    (new = ~~~e.quad → exec (.encoderSample ch new) s =
      .next { u.setChannel ch { e with quad := new } with
        notices.fault :=
          match ch with
          | .e0 => { s.notices.fault with e0Count := up s.notices.fault.e0Count }
          | .e1 => { s.notices.fault with e1Count := up s.notices.fault.e1Count } }) ∧
    ((e.quad, new) ∈ [(0#2, 1#2), (1#2, 3#2), (3#2, 2#2), (2#2, 0#2)] → exec (.encoderSample ch new) s =
      .next (u.setChannel ch
        (if e.acc + 1 = e.stepsPerDetent then
          { e with quad := new, acc := 0, position := e.position + 1#16,
                   delta := if e.delta = 127 then 127 else e.delta + 1,
                   overFlag := if e.delta = 127 then true else e.overFlag }
        else if e.acc + 1 = -(e.stepsPerDetent : Int) then
          { e with quad := new, acc := 0, position := e.position - 1#16,
                   delta := if e.delta = -127 then -127 else e.delta - 1,
                   overFlag := if e.delta = -127 then true else e.overFlag }
        else { e with quad := new, acc := e.acc + 1 }))) ∧
    ((new, e.quad) ∈ [(0#2, 1#2), (1#2, 3#2), (3#2, 2#2), (2#2, 0#2)] → exec (.encoderSample ch new) s =
      .next (u.setChannel ch
        (if e.acc - 1 = e.stepsPerDetent then
          { e with quad := new, acc := 0, position := e.position + 1#16,
                   delta := if e.delta = 127 then 127 else e.delta + 1,
                   overFlag := if e.delta = 127 then true else e.overFlag }
        else if e.acc - 1 = -(e.stepsPerDetent : Int) then
          { e with quad := new, acc := 0, position := e.position - 1#16,
                   delta := if e.delta = -127 then -127 else e.delta - 1,
                   overFlag := if e.delta = -127 then true else e.overFlag }
        else { e with quad := new, acc := e.acc - 1 })))) ∧
  ∀ (ch : Channel) (new : QuadPair) (s : State), s.live →
    (s.channel ch).enabled = false ∨ (s.channel ch).sampleDue = false ∨ s.power.state = .asleep →
    exec (.encoderSample ch new) s = .next (presentPair ch new s)

/-- COALESCING_TIMER_EXPIRY at its expiry tick leaves the channel's timer expired and, while ASLEEP, wakes the part with
cause ENCODER if the channel has a delta or OVER, whatever the mask (R9, R102, R105, R135). ENCODER_PIN_CHANGE wakes the
part with cause ENCODER, counting nothing, while ASLEEP if an enabled channel in the wake mask reads a pair that differs
from its quadrature state (R105, R135). That an expiry before its tick, and a pin change in any other case, is no event is
the model's choice (log 1), and so is that the levels a command carries are then the levels on the pins (log 3). -/
def Obligations.EncoderEventsWakeTheSleepingPart : Prop :=
  (∀ (ch : Channel) (pins : EncoderPins) (s : State), s.live →
    let u := presentEncoderPins pins s
    let e := s.channel ch
    let expired := u.setChannel ch { e with timer := none }
    (timerDue e.timer s.scan.panelTime = true →
      exec (.coalescingTimerExpiry ch pins) s =
        .next (if s.power.state = .asleep ∧ (e.delta ≠ 0 ∨ e.overFlag = true) then wakePart .encoder expired
               else expired)) ∧
    (timerDue e.timer s.scan.panelTime = false → exec (.coalescingTimerExpiry ch pins) s = .next u)) ∧
  ∀ (pins : EncoderPins) (s : State), s.live →
    let u := presentEncoderPins pins s
    let watched : Prop :=
      (s.encoders.e0.enabled = true ∧ s.power.mask.e0 = true ∧ pins.e0 ≠ s.encoders.e0.quad) ∨
        (s.encoders.e1.enabled = true ∧ s.power.mask.e1 = true ∧ pins.e1 ≠ s.encoders.e1.quad)
    (s.power.state = .asleep ∧ watched → exec (.encoderPinChange pins) s = .next (wakePart .encoder u)) ∧
    (¬ (s.power.state = .asleep ∧ watched) → exec (.encoderPinChange pins) s = .next u)

/-- BLINK_TIMER_EXPIRY toggles the blink phase and starts the timer with the half-period in force, in units of 125 ms
(R113); TEST_TIMER_EXPIRY ends the display test (R114); neither changes anything else. Before the expiry tick neither is
an event (R9; log 1). -/
def Obligations.BlinkAndTestTimersExpire : Prop :=
  (∀ s : State, s.live → timerDue s.display.blinkTimer s.scan.panelTime = true →
    exec .blinkTimerExpiry s = .next { s with
      display.blinkOn := !s.display.blinkOn
      display.blinkTimer := some (s.scan.panelTime + BitVec.ofNat 16 (125 * s.display.blinkHalf)) }) ∧
  (∀ s : State, s.live → timerDue s.display.blinkTimer s.scan.panelTime = false → exec .blinkTimerExpiry s = .next s) ∧
  (∀ s : State, s.live → timerDue s.display.testTimer s.scan.panelTime = true →
    exec .testTimerExpiry s = .next { s with display.testTimer := none }) ∧
  ∀ s : State, s.live → timerDue s.display.testTimer s.scan.panelTime = false → exec .testTimerExpiry s = .next s

/-- WAKE_SWEEP, due while ASLEEP with key scanning on, drives P0 to P(N-1) low together and no other position line, with
the segment lines low, and leaves every position line inactive (R134); the levels it drove stand in the model's field
`swept` (log 12). It wakes the part with cause KEY if a return line reads low and keys are in the wake mask; otherwise the
next sweep is due 20 ms later and no key state changes (R134, R135). At any other moment it is no event, the model's
choice (log 1), and only the levels on the pins have changed (log 3). -/
def Obligations.WakeSweepWakesOnAClosedKey : Prop :=
  ∀ (returns : Byte) (pins : EncoderPins) (s : State), s.live →
    let u : State := { s with pins := { s.pins with returns := returns, e0 := pins.e0, e1 := pins.e1 } }
    let due : Prop := s.power.state = .asleep ∧ s.scan.config.keyScanning = true ∧
      timerDue s.power.sweep s.scan.panelTime = true
    let driven : State := { u with
      lines := { position := 0xFF#8, segment := 0x0000#16, lit := 0,
                 swept := BitVec.ofNat 8 (256 - 2 ^ s.scan.config.positions) } }
    (due → returns ≠ 0xFF#8 → s.power.mask.keys = true →
      exec (.wakeSweep returns pins) s = .next (wakePart .key driven)) ∧
    (due → returns = 0xFF#8 ∨ s.power.mask.keys = false →
      exec (.wakeSweep returns pins) s = .next { driven with power.sweep := some (s.scan.panelTime + 20#16) }) ∧
    (¬ due → exec (.wakeSweep returns pins) s = .next u)

/-- What a wake does to each block (R31, R105, R136): AWAKE, the sweep stopped, every key record UP with its flag open,
the scan at slot 0, every enabled channel at its pins' pair with accumulator 0 and its position, delta, OVER, timer and
settings kept, WAKE raised with the cause, and nothing else changed: the wake mask, the key map, the chord table and the
display are kept. That slot 0 starts with the next SLOT_START, and is not running yet, is the model's choice (log 20; R136
says that the scan engine starts it); that the first sample awaits the next tick (R105) stands in the model's field
`sampleDue` (log 5). -/
def Obligations.WakeRestoresEachBlock : Prop :=
  ∀ (cause : WakeCause) (s : State),
    let resync (pins : QuadPair) (e : EncoderChannel) : EncoderChannel :=
      if e.enabled = true then { e with quad := pins, acc := 0, sampleDue := false } else e
    wakePart cause s = { s with
      power.state := .awake
      power.sweep := none
      keys.table := Vector.ofFn fun _ : KeyIndex =>
        { phase := .up, contact := false, count := 0, blockReason := none, chorded := false, admission := none }
      scan.slotIndex := 0
      scan.slotRunning := false
      encoders.e0 := resync s.pins.e0 s.encoders.e0
      encoders.e1 := resync s.pins.e1 s.encoders.e1
      notices.wake := some cause }

/-! ### The link -/

/-- RECEIVE_BYTE of a byte whose start bit was taken (R138, R140 to R142). Its arrival sets the link-seen flag while
SLEEP_PENDING and wakes the part with cause LINK while ASLEEP (R131, R135); then the receiver takes it in its present
state: the lead byte begins a frame, a length of 2 to 40 is kept and any other counted, body bytes are gathered, and the
check byte hands a frame whose sum is 0x00 on at that moment (R144; what the hand-on does is in
`AckRemovesTheNamedNoticeAndAllOlder` and `ArrivalsAreQueuedAnsweredOrDropped`) and counts any other as a check error. The
operand that says RXD was seen high is the model's choice (log 9), and so is that a byte whose start bit is not taken is
no event but for the levels on the pins (log 1, 3). -/
def Obligations.ReceiverTakesAGoodByte : Prop :=
  (∀ (b : Byte) (sawHigh : Bool) (pins : EncoderPins) (s : State), s.live →
    s.link.lineHeld = false ∨ sawHigh = true →
    let u := (presentEncoderPins pins s).byteArrived
    let advance (rx : RxState) : State :=
      { u with link.rx := rx, link.gapTimer := some (s.scan.panelTime + 6#16) }
    let up (n : Nat) : Nat := if n < 65535 then n + 1 else n
    (s.link.rx = .hunt → b = 0xC3#8 → exec (.receiveByte b sawHigh pins) s = .next (advance .length)) ∧
    (s.link.rx = .hunt → b ≠ 0xC3#8 → exec (.receiveByte b sawHigh pins) s = .next u) ∧
    (s.link.rx = .length → 2 ≤ b.toNat → b.toNat ≤ 40 →
      exec (.receiveByte b sawHigh pins) s = .next (advance (.body b.toNat []))) ∧
    (s.link.rx = .length → b.toNat < 2 ∨ 40 < b.toNat →
      exec (.receiveByte b sawHigh pins) s = .next { u with
        link.rx := .hunt
        link.gapTimer := none
        link.counters.lengthErrors := up s.link.counters.lengthErrors }) ∧
    (∀ (len : Nat) (got : List Byte), s.link.rx = .body len got →
      exec (.receiveByte b sawHigh pins) s =
        .next (advance (if got.length + 1 < len then .body len (got ++ [b]) else .check len (got ++ [b])))) ∧
    (∀ (len : Nat) (kind tag : Byte) (payload : List Byte), s.link.rx = .check len (kind :: tag :: payload) →
      let sum := BitVec.ofNat 8 len + (kind :: tag :: payload).foldr (· + ·) 0#8 + b
      (sum = 0x00#8 → exec (.receiveByte b sawHigh pins) s =
        .next (handOn { kind := kind, tag := tag, payload := payload } { u with
          link.rx := .hunt
          link.gapTimer := none })) ∧
      (sum ≠ 0x00#8 → exec (.receiveByte b sawHigh pins) s = .next { u with
        link.rx := .hunt
        link.gapTimer := none
        link.counters.checkErrors := up s.link.counters.checkErrors }))) ∧
  ∀ (b : Byte) (pins : EncoderPins) (s : State), s.live → s.link.lineHeld = true →
    exec (.receiveByte b false pins) s = .next (presentEncoderPins pins s)

/-- FRAMING_ERROR counts one framing error, aborts a partial frame and holds reception until RXD has been sampled high;
its arrival sets link-seen or wakes the part like any byte (R131, R135, R138). GAP_TIMER_EXPIRY aborts a partial frame and
counts one gap abort (R142). That a byte whose start bit is not taken, the line being held and not seen high, and an
expiry before its tick are no events is the model's choice (log 1, 9), and so is that the levels carried are then on the
pins (log 3). -/
def Obligations.DamagedFramesAreAbortedAndCounted : Prop :=
  (∀ (sawHigh : Bool) (pins : EncoderPins) (s : State), s.live →
    s.link.lineHeld = false ∨ sawHigh = true →
    let shown := presentEncoderPins pins s
    let u : State :=
      match s.power.state with
      | .awake => shown
      | .sleepPending => { shown with power.linkSeen := true }
      | .asleep => wakePart .link shown
    exec (.framingError sawHigh pins) s = .next { u with
      link.rx := .hunt
      link.gapTimer := none
      link.lineHeld := true
      link.counters.framingErrors :=
        if s.link.counters.framingErrors < 65535 then s.link.counters.framingErrors + 1
        else s.link.counters.framingErrors }) ∧
  (∀ (pins : EncoderPins) (s : State), s.live → s.link.lineHeld = true →
    exec (.framingError false pins) s = .next (presentEncoderPins pins s)) ∧
  (∀ s : State, s.live → timerDue s.link.gapTimer s.scan.panelTime = true →
    exec .gapTimerExpiry s = .next { s with
      link.rx := .hunt
      link.gapTimer := none
      link.counters.gapAborts :=
        if s.link.counters.gapAborts < 65535 then s.link.counters.gapAborts + 1 else s.link.counters.gapAborts }) ∧
  ∀ s : State, s.live → timerDue s.link.gapTimer s.scan.panelTime = false → exec .gapTimerExpiry s = .next s

/-- A frame and its bytes agree (R139 to R141, R144): from HUNT, awake, the bytes of any frame with a payload of at most 38
bytes, received one after another, hand exactly that frame on, at the last of them, with nothing counted and the receiver
back in HUNT. The bytes carry the levels that stand on the encoder pins (log 3) and need no wait for RXD (log 9). -/
def Obligations.ReceivingAFrameHandsItOn : Prop :=
  ∀ (f : Frame) (s : State), f.payload.length ≤ 38 → s.live → s.power.state = .awake →
    s.link.lineHeld = false → s.link.rx = .hunt → s.link.gapTimer = none →
    f.bytes.foldl
        (fun r b =>
          match r with
          | .next t => exec (.receiveByte b true ⟨t.pins.e0, t.pins.e1⟩) t
          | o => o)
        (.next s) =
      (.next (handOn f s) : Result)

/-- The hand-on of an ACK frame (R144, R170, R171, R174). A payload of one byte that names an outstanding entry removes it
and every older one; the timer restarts if a SENT entry is left and the state is RUNNING, and stops if none is left. Any
other ACK counts as unmatched. Then the report of the valid frame ends a stall: RUNNING, every entry left RESEND with try
count 1. The command ACK is the arrival of the good check byte of an ACK frame that the receiver holds, with the hand-on
at that moment; that the frame's sort makes a command of its own is the model's choice (log 6), and so is that with no
such frame in hand it is no event (log 1). -/
def Obligations.AckRemovesTheNamedNoticeAndAllOlder : Prop :=
  (∀ (f : Frame) (s : State), f.kind = 0x20#8 →
    (∀ (older newer : List OutstandingNotice) (n : OutstandingNotice), f.payload = [n.seq] →
      s.notices.outstanding = older ++ n :: newer → (∀ o ∈ older, o.seq ≠ n.seq) →
      handOn f s = State.reported { s with
        notices.outstanding := newer
        notices.timer :=
          if ∃ m ∈ newer, m.transmit = .sent then
            if s.notices.state = .running then some (s.scan.panelTime + BitVec.ofNat 16 s.notices.timeout)
            else s.notices.timer
          else none }) ∧
    ((∀ n ∈ s.notices.outstanding, f.payload ≠ [n.seq]) →
      handOn f s = State.reported { s with
        link.counters.unmatchedAcks :=
          if s.link.counters.unmatchedAcks < 65535 then s.link.counters.unmatchedAcks + 1
          else s.link.counters.unmatchedAcks })) ∧
  (∀ (len : Nat) (tag : Byte) (payload : List Byte) (s : State), s.live →
    s.link.rx = .check len (0x20#8 :: tag :: payload) →
    exec .ack s = .next (handOn { kind := 0x20#8, tag := tag, payload := payload } { s.byteArrived with
      link.rx := .hunt
      link.gapTimer := none })) ∧
  ∀ s : State, s.live →
    (∀ len kind tag payload, s.link.rx = .check len (kind :: tag :: payload) → kind ≠ 0x20#8) → exec .ack s = .next s

/-- The hand-on of requests and of frames of unknown kind (R144, R153, R154, R158, R174). A request is queued while fewer
than 4 wait; otherwise it is answered QUEUE_FULL and counted while fewer than 4 places of the reply list are held, the
place reserved in SCAN_WAIT counted; otherwise it is dropped and counted. A frame of unknown kind is answered by a reject
frame by the same test of the list, or dropped and counted. An IDLE dispatcher with a request and no free place waits for
one. Then the report of the valid frame ends a stall. The commands REQUEST_ARRIVAL and UNKNOWN_KIND_FRAME are the arrival
of the good check byte of such a frame that the receiver holds: the model's choice (log 6), and so is that with no such
frame in hand they are no events (log 1). REQUEST_ARRIVAL leaves the report owed: it reaches the notice manager after the
dispatcher's execution if that is the next step, and before any other step (R174 allows both orders; log 7). -/
def Obligations.ArrivalsAreQueuedAnsweredOrDropped : Prop :=
  let up (n : Nat) : Nat := if n < 65535 then n + 1 else n
  let request (kind : Byte) : Prop := 1 ≤ kind.toNat ∧ kind.toNat ≤ 21
  (∀ (f : Frame) (s : State),
    let settle (requests replies : List Frame) (t : State) : State := { t with
      dispatch := { requests := requests, replies := replies,
                    phase := if s.dispatch.phase = .idle ∧ s.power.state = .awake ∧ requests ≠ [] ∧ 4 ≤ replies.length then
                      .waitReplySpace else s.dispatch.phase } }
    let held := s.dispatch.replies.length + if s.dispatch.phase = .scanWait then 1 else 0
    let dropped : State := settle s.dispatch.requests s.dispatch.replies
      { s with link.counters.framesDropped := up s.link.counters.framesDropped }
    let arrived : State :=
      if s.dispatch.requests.length < 4 then settle (s.dispatch.requests ++ [f]) s.dispatch.replies s
      else if held < 4 then settle s.dispatch.requests
        (s.dispatch.replies ++ [{ kind := f.kind + 0x80#8, tag := f.tag, payload := [0x05#8] }])
        { s with link.counters.queueFull := up s.link.counters.queueFull }
      else dropped
    let rejected : State :=
      if held < 4 then settle s.dispatch.requests
        (s.dispatch.replies ++ [{ kind := 0xBF#8, tag := f.tag, payload := [0x06#8, f.kind] }]) s
      else dropped
    (request f.kind → handOn f s = arrived.reported) ∧
    (¬ request f.kind → f.kind ≠ 0x20#8 → handOn f s = rejected.reported) ∧
    ∀ (len : Nat) (before : State), before.live → before.link.rx = .check len (f.kind :: f.tag :: f.payload) →
      s = { before.byteArrived with link.rx := .hunt, link.gapTimer := none } →
      (request f.kind → exec .requestArrival before = .next { arrived with link.reportOwed := true }) ∧
      (¬ request f.kind → f.kind ≠ 0x20#8 → exec .unknownKindFrame before = .next rejected.reported)) ∧
  (∀ s : State, s.live →
    ((∀ len kind tag payload, s.link.rx = .check len (kind :: tag :: payload) → ¬ request kind) →
      exec .requestArrival s = .next s) ∧
    ((∀ len kind tag payload, s.link.rx = .check len (kind :: tag :: payload) → request kind ∨ kind = 0x20#8) →
      exec .unknownKindFrame s = .next s)) ∧
  ∀ (c : Instr) (s : State), s.pins.nrst = true → s.link.reportOwed = true →
    let delivered : State := { s with link.reportOwed := false }
    (c.requestKind = none → (∀ cause spd pins, c ≠ .hardwareReset cause spd pins) → c ≠ .nrstHeldLow →
      exec c s = exec c delivered.reported) ∧
    (∀ kind, c.requestKind = some kind → ∃ t, exec c delivered = .next t ∧ exec c s = .next t.reported)

/-- ARBITER_CHOICE with the transmitter IDLE, by the table of R147: a reply goes first unless a notice waits and two
replies have gone before it; a reply begun leaves its list and raises the consecutive-reply count, to at most 2; a notice
begun is the oldest QUEUED or RESEND entry, becomes SENT, counts a retransmission if it was RESEND and sets the count to 0
(R147, R149, R170). While a frame is being sent, or with nothing waiting, nothing is begun (R145, R147). -/
def Obligations.ArbiterChoosesByItsTable : Prop :=
  ∀ s : State, s.live →
    let noticeWaits : Prop := s.notices.state = .running ∧ ∃ n ∈ s.notices.outstanding, n.transmit ≠ .sent
    let begun (f : Frame) (source : TxSource) : Option TxFrame := some { frame := f, source := source }
    (s.link.tx = none →
      (∀ (f : Frame) (rest : List Frame), s.dispatch.replies = f :: rest → ¬ (noticeWaits ∧ 2 ≤ s.link.replyRun) →
        exec .arbiterChoice s = .next { s with
          dispatch.replies := rest
          link.tx := begun f .reply
          link.replyRun := if s.link.replyRun < 2 then s.link.replyRun + 1 else 2 }) ∧
      (∀ (older newer : List OutstandingNotice) (n : OutstandingNotice), s.notices.state = .running →
        s.notices.outstanding = older ++ n :: newer → (∀ o ∈ older, o.transmit = .sent) → n.transmit ≠ .sent →
        s.dispatch.replies = [] ∨ 2 ≤ s.link.replyRun →
        exec .arbiterChoice s = .next { s with
          notices.outstanding := older ++ { n with transmit := .sent } :: newer
          link.tx := begun { kind := n.content.cls.kind, tag := n.seq, payload := n.content.bytes } .notice
          link.replyRun := 0
          link.counters.retransmissions :=
            if n.transmit = .resend ∧ s.link.counters.retransmissions < 65535 then s.link.counters.retransmissions + 1
            else s.link.counters.retransmissions }) ∧
      (s.dispatch.replies = [] → ¬ noticeWaits → exec .arbiterChoice s = .next s)) ∧
    (∀ t, s.link.tx = some t → exec .arbiterChoice s = .next s)

/-- END_OF_TRANSMISSION of a notice starts the acknowledgement timer if the state is RUNNING and its entry is still in the
list, and changes no timer otherwise (R146, R170, R174). That the entry is the one whose sequence number is the tag of the
frame sent is the model's reading (DEDUCED, log 15). That of a reply other than those RESTART and SLEEP wait for, and of a
reject frame, only leaves the transmitter IDLE (R146). TXD then rests high (R137). How the reply that RESTART or SLEEP
waits for is told is the model's reading (DEDUCED, log 13). That the arbiter's choice that follows is a command of its own
is the model's choice (log 26), and so is that with nothing on TXD the command is no event but for the levels on the pins
(log 1, 3). -/
def Obligations.EndOfTransmissionOfNoticesAndPlainReplies : Prop :=
  ∀ (pins : EncoderPins) (s : State), s.live →
    let u : State := { presentEncoderPins pins s with link.tx := none }
    (∀ bit, u.txdLevel bit = true) ∧
    (∀ f : Frame, s.link.tx = some { frame := f, source := .notice } →
      exec (.endOfTransmission pins) s = .next { u with
        notices.timer :=
          if s.notices.state = .running ∧ ∃ n ∈ s.notices.outstanding, n.seq = f.tag then
            some (s.scan.panelTime + BitVec.ofNat 16 s.notices.timeout)
          else s.notices.timer }) ∧
    (∀ f : Frame, s.link.tx = some { frame := f, source := .reply } →
      ¬ (f.kind = 0x83#8 ∧ f.payload = [0x00#8] ∧ s.dispatch.phase = .restartWait) →
      ¬ (f.kind = 0x93#8 ∧ f.payload = [0x00#8] ∧ s.dispatch.phase = .sleepWait) →
      exec (.endOfTransmission pins) s = .next u) ∧
    (s.link.tx = none → exec (.endOfTransmission pins) s = .next u)

/-- At the end of its OK reply RESTART takes effect (R163): the part is as a hardware reset leaves it, with the encoder
pins read now, but for the link rate and the eight counters, which keep their values, the cause SOFT of READY (R167), and
the wait for RXD to be sampled high, which is kept: the model's choice (log 9). A key sample at the same instant can still
follow and meets the restarted part (R164); that it is one of the slot in progress, whose position the model's field
`cutSlot` keeps for it, is the model's choice (log 27). -/
def Obligations.RestartTakesEffectAtTheEndOfItsReply : Prop :=
  ∀ (pins : EncoderPins) (f : Frame) (s : State), s.live →
    s.link.tx = some { frame := f, source := .reply } → f.kind = 0x83#8 → f.payload = [0x00#8] →
    s.dispatch.phase = .restartWait →
    ∃ h, exec (.hardwareReset .pin s.pins.spd pins) s = .next h ∧
      exec (.endOfTransmission pins) s = .next { h with
        scan.cutSlot :=
          if s.scan.slotRunning = true ∧ s.scan.config.keyScanning = true then some s.scan.slotIndex else none
        link.rate := s.link.rate
        link.counters := s.link.counters
        link.lineHeld := s.link.lineHeld
        notices.ready := some .soft }

/-- The sleep entry check at the end of the SLEEP reply (R132, R133, R117, R128): the first check that applies abandons
the entry with its cause, AWAKE again with link-seen clear and WAKE raised; with none the part is ASLEEP, every line
released, the slot ended, the shown patterns 0x0000, the dispatcher IDLE, and the first sweep due in 20 ms if key scanning
is on (R134). That no key sample follows a RESTART any more is the model's field `cutSlot` (log 27). -/
def Obligations.SleepEntryIsCheckedAgain : Prop :=
  ∀ (pins : EncoderPins) (f : Frame) (s : State), s.live →
    s.link.tx = some { frame := f, source := .reply } → f.kind = 0x93#8 → f.payload = [0x00#8] →
    s.dispatch.phase = .sleepWait →
    let u : State := { presentEncoderPins pins s with link.tx := none }
    let eligible (e : EncoderChannel) : Prop := (e.delta ≠ 0 ∨ e.overFlag = true) ∧ e.timer = none
    let check1 : Prop := s.dispatch.requests ≠ [] ∨ s.power.linkSeen = true ∨ s.notices.outstanding ≠ []
    let check2 : Prop := (∃ k : KeyIndex, (s.record k).phase ≠ .up) ∨ s.chords.held ≠ [] ∨ s.queue ≠ [] ∨
      s.notices.fault.ghostCount ≠ 0 ∨ s.notices.fault.rolloverCount ≠ 0
    let check3 : Prop := eligible s.encoders.e0 ∨ eligible s.encoders.e1 ∨ s.notices.fault.e0Count ≠ 0 ∨
      s.notices.fault.e1Count ≠ 0
    let abandoned (cause : WakeCause) : State := { u with
      power.state := .awake
      power.linkSeen := false
      dispatch.phase :=
        if s.dispatch.requests ≠ [] ∧ 4 ≤ s.dispatch.replies.length then .waitReplySpace else .idle
      notices.wake := some cause }
    (check1 → exec (.endOfTransmission pins) s = .next (abandoned .link)) ∧
    (¬ check1 → check2 → exec (.endOfTransmission pins) s = .next (abandoned .key)) ∧
    (¬ check1 → ¬ check2 → check3 → exec (.endOfTransmission pins) s = .next (abandoned .encoder)) ∧
    (¬ check1 → ¬ check2 → ¬ check3 → exec (.endOfTransmission pins) s = .next { u with
      power.state := .asleep
      power.linkSeen := false
      power.sweep := if s.scan.config.keyScanning = true then some (s.scan.panelTime + 20#16) else none
      scan.slotRunning := false
      scan.cutSlot := none
      lines := { position := 0xFF#8, segment := 0x0000#16, lit := 0, swept := 0xFF#8 }
      display.shown := Vector.ofFn fun _ : Position => 0x0000#16
      dispatch.phase := .idle })

/-! ### Notices -/

/-- NOTICE_COMPOSITION composes the enabled pending class of highest priority, while RUNNING, with fewer than W entries
outstanding and not ASLEEP (R165 to R167, R169, R90, R103): the entry takes the next sequence number, QUEUED with try
count 1, and its source is lowered, cleared, drained or reported. Otherwise nothing is composed. -/
def Obligations.CompositionTakesTheHighestEnabledPendingClass : Prop :=
  ∀ s : State, s.live →
    let may : Prop := s.notices.state = .running ∧ s.notices.outstanding.length < s.notices.window ∧
      s.power.state ≠ .asleep
    let composed (content : NoticeContent) (t : State) : State := { t with
      notices.outstanding := s.notices.outstanding ++
        [{ seq := s.notices.nextSeq, content := content, tries := 1, transmit := .queued }]
      notices.nextSeq := s.notices.nextSeq + 1#8 }
    let noFlag : Prop := s.notices.ready = none ∧ s.notices.wake = none
    let f := s.notices.fault
    let faults : Prop := (f.ghostCount ≠ 0 ∨ f.rolloverCount ≠ 0 ∨ f.e0Count ≠ 0 ∨ f.e1Count ≠ 0) ∧
      s.notices.mask.panelFault = true
    let keys : Prop := s.queue ≠ [] ∧ s.notices.mask.keys = true
    let due (e : EncoderChannel) : Bool := (e.delta != 0 || e.overFlag) && e.timer.isNone
    let encoders : Prop := (due s.encoders.e0 = true ∨ due s.encoders.e1 = true) ∧ s.notices.mask.encoder = true
    let reported (e : EncoderChannel) : EncoderChannel :=
      if due e = true then
        { e with delta := 0, overFlag := false, timer := some (s.scan.panelTime + BitVec.ofNat 16 e.interval) }
      else e
    let report (c : Channel) (e : EncoderChannel) : List ChannelReport :=
      if due e = true then [{ channel := c, overFlag := e.overFlag, delta := e.delta, position := e.position }] else []
    (may → ∀ c, s.notices.ready = some c →
      exec .noticeComposition s = .next (composed (.ready c) { s with notices.ready := none })) ∧
    (may → s.notices.ready = none → ∀ c, s.notices.wake = some c →
      exec .noticeComposition s = .next (composed (.wake c) { s with notices.wake := none })) ∧
    (may → noFlag → faults →
      exec .noticeComposition s = .next (composed (.panelFault f) { s with
        notices.fault := { ghostCount := 0, lastGhost := 0, rolloverCount := 0, lastRollover := 0, e0Count := 0,
                           e1Count := 0 } })) ∧
    (may → noFlag → ¬ faults → keys →
      exec .noticeComposition s =
        .next (composed (.keys (drainQueue 37 s.queue).1) { s with queue := (drainQueue 37 s.queue).2 })) ∧
    (may → noFlag → ¬ faults → ¬ keys → encoders →
      exec .noticeComposition s =
        .next (composed (.encoder (report .e0 s.encoders.e0 ++ report .e1 s.encoders.e1)) { s with
          encoders.e0 := reported s.encoders.e0
          encoders.e1 := reported s.encoders.e1 })) ∧
    (¬ may ∨ (noFlag ∧ ¬ faults ∧ ¬ keys ∧ ¬ encoders) → exec .noticeComposition s = .next s)

/-- ACKNOWLEDGEMENT_TIMER_EXPIRY stops the timer. If every SENT entry has a try count below 4, each becomes RESEND with
one try more and no other entry changes; if one has try count 4, no entry changes and the notice manager is STALLED (R170,
R172). Before the expiry tick it is no event (R9; log 1). -/
def Obligations.AcknowledgementTimeoutRetriesOrStalls : Prop :=
  (∀ s : State, s.live → timerDue s.notices.timer s.scan.panelTime = true →
    ((∀ n ∈ s.notices.outstanding, n.transmit = .sent → n.tries < 4) →
      exec .acknowledgementTimerExpiry s = .next { s with
        notices.timer := none
        notices.outstanding := s.notices.outstanding.map fun n =>
          if n.transmit = .sent then { n with tries := n.tries + 1, transmit := .resend } else n }) ∧
    ((∃ n ∈ s.notices.outstanding, n.transmit = .sent ∧ 4 ≤ n.tries) →
      exec .acknowledgementTimerExpiry s = .next { s with notices.timer := none, notices.state := .stalled })) ∧
  ∀ s : State, s.live → timerDue s.notices.timer s.scan.panelTime = false → exec .acknowledgementTimerExpiry s = .next s

/-! ### Requests. `State.serves` is the dispatcher at a request and `State.replied` the state in which it has been answered. -/

/-- IDENTIFY is answered with OK and its fixed values, changes nothing else, and is refused with BAD_LENGTH where it
carries anything (R159). -/
def Obligations.IdentifyAnswersItsFixedValues : Prop :=
  ∀ (r : Frame) (rest : List Frame) (s : State), s.serves 0x01#8 r rest →
    (r.payload = [] → exec .identify s = .next (s.replied r rest
      [0x00#8, 0x24#8, 0x18#8, 0x01#8, 0x02#8, 0x08#8, 0x08#8, 0x08#8, 0x10#8, 0x03#8])) ∧
    (r.payload ≠ [] → exec .identify s = .next (s.replied r rest [0x01#8]))

/-- GET_STATUS, READ_KEYS and READ_DISPLAY answer OK with the fields of their blocks as they stand, change nothing else,
and are refused with BAD_LENGTH where they carry anything (R49, R50, R127, R160, R177). -/
def Obligations.ReadRequestsReportAndChangeNothing : Prop :=
  ∀ (r : Frame) (rest : List Frame) (s : State),
    let blocked := (List.finRange 64).filter fun k => (s.record k).phase = .blocked
    let byte (n : Nat) : Byte := BitVec.ofNat 8 n
    let hi (w : BitVec 16) : Byte := w.extractLsb' 8 8
    let lo (w : BitVec 16) : Byte := w.extractLsb' 0 8
    let bit (b : Bool) (n : Nat) : Nat := if b = true then 2 ^ n else 0
    let eligible (e : EncoderChannel) : Bool := (e.delta != 0 || e.overFlag) && e.timer.isNone
    let f := s.notices.fault
    let pendingSet := bit s.notices.ready.isSome 0 + bit s.notices.wake.isSome 1 +
      bit (f.ghostCount != 0 || f.rolloverCount != 0 || f.e0Count != 0 || f.e1Count != 0) 2 +
      bit (!s.queue.isEmpty) 3 + bit (eligible s.encoders.e0 || eligible s.encoders.e1) 4
    (s.serves 0x02#8 r rest →
      (r.payload = [] → exec .getStatus s = .next (s.replied r rest
        [0x00#8, 0x00#8, (if s.notices.state = .running then 0x00#8 else 0x01#8), byte s.notices.outstanding.length,
         byte pendingSet, byte s.queue.length, byte s.keys.downSet.length, byte s.chords.held.length, byte blocked.length,
         byte (bit s.display.testTimer.isSome 0), hi s.scan.panelTime, lo s.scan.panelTime])) ∧
      (r.payload ≠ [] → exec .getStatus s = .next (s.replied r rest [0x01#8]))) ∧
    (s.serves 0x07#8 r rest →
      (r.payload = [] → exec .readKeys s = .next (s.replied r rest
        ([0x00#8] ++ [byte s.keys.downSet.length] ++ s.keys.downSet.map (fun k => byte k.val) ++
          [byte s.chords.held.length] ++ s.chords.held.map (fun h => byte h.key.val) ++
          [match s.repeatHold.owner with
            | some o => byte o.key.val
            | none => 0xFF#8] ++
          [byte blocked.length] ++
          (blocked.take 8).flatMap fun k =>
            [byte k.val, if (s.record k).blockReason = some .rollover then 0x01#8 else 0x00#8]))) ∧
      (r.payload ≠ [] → exec .readKeys s = .next (s.replied r rest [0x01#8]))) ∧
    (s.serves 0x12#8 r rest →
      (r.payload = [] → ∃ remaining : BitVec 16,
        exec .readDisplay s = .next (s.replied r rest
          ([0x00#8] ++ s.display.shown.toList.flatMap (fun w => [hi w, lo w]) ++ [hi remaining, lo remaining] ++
            [byte (bit s.display.enable 0)])) ∧
        (s.display.testTimer = none → remaining = 0#16) ∧
        (∀ d, s.display.testTimer = some d → d = s.scan.panelTime → remaining = 1#16) ∧
        (∀ d, s.display.testTimer = some d → 1 ≤ (d - s.scan.panelTime).toNat → (d - s.scan.panelTime).toNat ≤ 5000 →
          remaining = d - s.scan.panelTime)) ∧
      (r.payload ≠ [] → exec .readDisplay s = .next (s.replied r rest [0x01#8])))

/-- GET_KEYMAP answers the entries of its run in ascending order, GET_CHORD its slot, members as SET_CHORD gave them;
neither changes anything else; a wrong length is refused with BAD_LENGTH and a run or slot out of range with RANGE (R35,
R70, R177). -/
def Obligations.TableReadsReportAndChangeNothing : Prop :=
  ∀ (r : Frame) (rest : List Frame) (s : State),
    let byte (n : Nat) : Byte := BitVec.ofNat 8 n
    let bit (b : Bool) (n : Nat) : Nat := if b = true then 2 ^ n else 0
    let entry (k : KeyIndex) : List Byte :=
      let e := s.mapEntry k
      [byte k.val, e.code, byte (bit e.enabled 0 + bit e.repeats 1 + bit e.releaseReport 2 + bit e.holdReport 3)]
    (s.serves 0x06#8 r rest →
      (∀ start count : Byte, r.payload = [start, count] →
        (start.toNat ≤ 63 → 1 ≤ count.toNat → count.toNat ≤ 8 → start.toNat + count.toNat ≤ 64 →
          exec .getKeymap s = .next (s.replied r rest
            ([0x00#8] ++ (List.range count.toNat).flatMap fun i => entry (Fin.ofNat 64 (start.toNat + i))))) ∧
        (63 < start.toNat ∨ count.toNat = 0 ∨ 8 < count.toNat ∨ 64 < start.toNat + count.toNat →
          exec .getKeymap s = .next (s.replied r rest [0x02#8]))) ∧
      (r.payload.length ≠ 2 → exec .getKeymap s = .next (s.replied r rest [0x01#8]))) ∧
    (s.serves 0x09#8 r rest →
      (∀ i : SlotIndex, r.payload = [byte i.val] →
        (∀ c, s.chords.slots[i] = some c → exec .getChord s = .next (s.replied r rest
          ([0x00#8, byte i.val, c.code, byte c.members.length] ++ c.members.map fun k => byte k.val))) ∧
        (s.chords.slots[i] = none →
          exec .getChord s = .next (s.replied r rest [0x00#8, byte i.val, 0x00#8, 0x00#8]))) ∧
      (∀ b : Byte, r.payload = [b] → 7 < b.toNat → exec .getChord s = .next (s.replied r rest [0x02#8])) ∧
      (r.payload.length ≠ 1 → exec .getChord s = .next (s.replied r rest [0x01#8])))

/-- READ_ENCODERS and GET_LINK_STATS answer with their fields as they stand; with the clear flag on, the deltas and OVER
flags, or the eight counters, are then cleared, and nothing else changes; a clear flag other than off or on is refused
with RANGE and a wrong length with BAD_LENGTH (R108, R149, R150, R176, R177). -/
def Obligations.ClearingReadsReportBeforeTheyClear : Prop :=
  ∀ (r : Frame) (rest : List Frame) (s : State),
    let byte (n : Nat) : Byte := BitVec.ofNat 8 n
    let hi (w : BitVec 16) : Byte := w.extractLsb' 8 8
    let lo (w : BitVec 16) : Byte := w.extractLsb' 0 8
    let bit (b : Bool) (n : Nat) : Nat := if b = true then 2 ^ n else 0
    let fields (e : EncoderChannel) : List Byte :=
      [byte (bit e.enabled 0 + bit e.timer.isSome 1 + bit e.overFlag 2), byte e.stepsPerDetent, byte (e.interval / 10),
       hi e.position, lo e.position, BitVec.ofInt 8 e.delta]
    let c := s.link.counters
    let encoders := [0x00#8] ++ fields s.encoders.e0 ++ fields s.encoders.e1
    let counters := [0x00#8] ++ [c.framingErrors, c.lengthErrors, c.checkErrors, c.gapAborts, c.queueFull, c.framesDropped,
      c.unmatchedAcks, c.retransmissions].flatMap fun n => [hi (BitVec.ofNat 16 n), lo (BitVec.ofNat 16 n)]
    (s.serves 0x0D#8 r rest →
      (r.payload = [0x00#8] → exec .readEncoders s = .next (s.replied r rest encoders)) ∧
      (r.payload = [0x01#8] → exec .readEncoders s = .next { s.replied r rest encoders with
        encoders.e0 := { s.encoders.e0 with delta := 0, overFlag := false }
        encoders.e1 := { s.encoders.e1 with delta := 0, overFlag := false } }) ∧
      (∀ b : Byte, r.payload = [b] → 1 < b.toNat → exec .readEncoders s = .next (s.replied r rest [0x02#8])) ∧
      (r.payload.length ≠ 1 → exec .readEncoders s = .next (s.replied r rest [0x01#8]))) ∧
    (s.serves 0x15#8 r rest →
      (r.payload = [0x00#8] → exec .getLinkStats s = .next (s.replied r rest counters)) ∧
      (r.payload = [0x01#8] → exec .getLinkStats s = .next { s.replied r rest counters with
        link.counters := { framingErrors := 0, lengthErrors := 0, checkErrors := 0, gapAborts := 0, queueFull := 0,
                           framesDropped := 0, unmatchedAcks := 0, retransmissions := 0 } }) ∧
      (∀ b : Byte, r.payload = [b] → 1 < b.toNat → exec .getLinkStats s = .next (s.replied r rest [0x02#8])) ∧
      (r.payload.length ≠ 1 → exec .getLinkStats s = .next (s.replied r rest [0x01#8])))

/-- RESTART with an empty payload posts its OK reply and waits for its end; the reset itself comes then. With any payload
it is refused with BAD_LENGTH (R162). While the dispatcher waits so, no request is taken; and neither RESTART nor any
other of the commands that execute a request takes one in SCAN_WAIT, RESTART_WAIT or SLEEP_WAIT, while the part is not
AWAKE, or while the reply list holds 4 frames (R131, R156 to R158). That such a command, and one whose kind is not that of
the oldest request, is then no event but for the levels on the pins is the model's choice (log 1, 3). -/
def Obligations.RestartPostsItsReplyAndWaits : Prop :=
  (∀ (r : Frame) (rest : List Frame) (s : State), s.serves 0x03#8 r rest →
    (r.payload = [] → exec .restart s = .next { s with
      dispatch :=
        { requests := rest
          replies := s.dispatch.replies ++ [{ kind := 0x83#8, tag := r.tag, payload := [0x00#8] }]
          phase := .restartWait } }) ∧
    (r.payload ≠ [] → exec .restart s = .next (s.replied r rest [0x01#8]))) ∧
  ∀ (c : Instr) (kind : Byte) (s : State), c.requestKind = some kind → s.live →
    s.dispatch.phase = .scanWait ∨ s.dispatch.phase = .restartWait ∨ s.dispatch.phase = .sleepWait ∨
      s.power.state ≠ .awake ∨ 4 ≤ s.dispatch.replies.length ∨
      (∀ r rest, s.dispatch.requests = r :: rest → r.kind ≠ kind) →
    ((∀ pins, c ≠ .setEncoders pins) → exec c s = .next s) ∧
    (∀ pins, c = .setEncoders pins → exec c s = .next (presentEncoderPins pins s))

/-- SET_SCAN that passes its checks becomes the pending configuration and puts the dispatcher in SCAN_WAIT with no reply
posted; a wrong length is refused with BAD_LENGTH and a field out of range with RANGE, the pending configuration staying
as it is (R11). -/
def Obligations.SetScanBecomesPending : Prop :=
  ∀ (r : Frame) (rest : List Frame) (s : State), s.serves 0x04#8 r rest →
    (∀ n t dp dr l g k : Byte, r.payload = [n, t, dp, dr, l, g, k] →
      let inRange : Prop := 1 ≤ n.toNat ∧ n.toNat ≤ 8 ∧ 1 ≤ t.toNat ∧ t.toNat ≤ 8 ∧ 1 ≤ dp.toNat ∧ dp.toNat ≤ 15 ∧
        1 ≤ dr.toNat ∧ dr.toNat ≤ 15 ∧ 2 ≤ l.toNat ∧ l.toNat ≤ 8 ∧ g.toNat ≤ 1 ∧ k.toNat ≤ 1
      (inRange → exec .setScan s = .next { s with
        scan.pendingScan := some
          { config :=
              { positions := n.toNat, slotUnits := t.toNat, dp := dp.toNat, dr := dr.toNat, limit := l.toNat,
                ghostFilter := decide (g = 1#8), keyScanning := decide (k = 1#8) }
            tag := r.tag }
        dispatch := { requests := rest, replies := s.dispatch.replies, phase := .scanWait } }) ∧
      (¬ inRange → exec .setScan s = .next (s.replied r rest [0x02#8]))) ∧
    (r.payload.length ≠ 7 → exec .setScan s = .next (s.replied r rest [0x01#8]))

/-- SET_KEYMAP writes its 1 to 8 entries in order, the later of two for one key standing, if every key it names is UP
(R32, R33). A payload that is not 1 to 8 whole entries is refused with BAD_LENGTH, an index above 63 or a flag bit that
names nothing with RANGE, and a key that is not UP with KEY_ACTIVE; a refused request changes nothing else. -/
def Obligations.SetKeymapWritesUpKeysOnly : Prop :=
  ∀ (r : Frame) (rest : List Frame) (s : State), s.serves 0x05#8 r rest →
    (∀ entries : List (Byte × Byte × Byte), r.payload = entries.flatMap (fun e => [e.1, e.2.1, e.2.2]) →
      1 ≤ entries.length → entries.length ≤ 8 →
      let inRange : Prop := ∀ e ∈ entries, e.1.toNat ≤ 63 ∧ e.2.2.toNat ≤ 15
      let allUp : Prop := ∀ e ∈ entries, (s.record (Fin.ofNat 64 e.1.toNat)).phase = .up
      let last (k : KeyIndex) : Option (Byte × Byte × Byte) := (entries.filter fun e => e.1.toNat = k.val).getLast?
      (inRange → allUp → ∃ t, exec .setKeymap s = .next t ∧
        t = { s.replied r rest [0x00#8] with keys.map := t.keys.map } ∧
        ∀ k : KeyIndex, t.mapEntry k =
          match last k with
          | some e => { code := e.2.1, enabled := e.2.2.getLsbD 0, repeats := e.2.2.getLsbD 1,
                        releaseReport := e.2.2.getLsbD 2, holdReport := e.2.2.getLsbD 3 }
          | none => s.mapEntry k) ∧
      (inRange → ¬ allUp → exec .setKeymap s = .next (s.replied r rest [0x03#8])) ∧
      (¬ inRange → exec .setKeymap s = .next (s.replied r rest [0x02#8]))) ∧
    (r.payload.length % 3 ≠ 0 ∨ r.payload = [] ∨ 24 < r.payload.length →
      exec .setKeymap s = .next (s.replied r rest [0x01#8]))

/-- SET_CHORD (R67, R68). A payload whose length is not 3 plus its own member count is refused with BAD_LENGTH; a slot
above 7, a count of 1 or above 4, an index above 63 or a repeated index with RANGE; a member set equal to another occupied
slot's with CONFLICT; a refused request changes nothing else. An accepted one flushes a held list and then writes the
slot, or empties it for a count of 0. -/
def Obligations.SetChordFlushesThenWritesItsSlot : Prop :=
  ∀ (r : Frame) (rest : List Frame) (s : State), s.serves 0x08#8 r rest →
    (∀ (slot code count : Byte) (members : List Byte), r.payload = slot :: code :: count :: members →
      let keys : List KeyIndex := members.map fun b => Fin.ofNat 64 b.toNat
      let inRange : Prop := slot.toNat ≤ 7 ∧ count.toNat ≠ 1 ∧ count.toNat ≤ 4 ∧ (∀ b ∈ members, b.toNat ≤ 63) ∧
        members.Nodup
      let conflict : Prop := members ≠ [] ∧ ∃ (i : SlotIndex) (c : ChordSlot), i.val ≠ slot.toNat ∧
        s.chords.slots[i] = some c ∧ ∀ k, k ∈ keys ↔ k ∈ c.members
      let flushed : State := if s.chords.held = [] then s else flushHeld s
      (members.length ≠ count.toNat → exec .setChord s = .next (s.replied r rest [0x01#8])) ∧
      (members.length = count.toNat → ¬ inRange → exec .setChord s = .next (s.replied r rest [0x02#8])) ∧
      (members.length = count.toNat → inRange → conflict → exec .setChord s = .next (s.replied r rest [0x07#8])) ∧
      (members.length = count.toNat → inRange → ¬ conflict →
        exec .setChord s = .next { flushed.replied r rest [0x00#8] with
          chords.slots := s.chords.slots.set (Fin.ofNat 8 slot.toNat)
            (if members = [] then none else some { code := code, members := keys }) })) ∧
    (r.payload.length < 3 → exec .setChord s = .next (s.replied r rest [0x01#8]))

/-- SET_TIMING (R71, R81, R82): a payload that is not 4 bytes is refused with BAD_LENGTH, a field out of its range with
RANGE; an accepted one puts its four values, carried in steps, into force and touches no running timer. -/
def Obligations.SetTimingSetsFourSettings : Prop :=
  ∀ (r : Frame) (rest : List Frame) (s : State), s.serves 0x0A#8 r rest →
    (∀ delay period hold window : Byte, r.payload = [delay, period, hold, window] →
      let inRange : Prop := 10 ≤ delay.toNat ∧ delay.toNat ≤ 200 ∧ 2 ≤ period.toNat ∧ period.toNat ≤ 50 ∧
        2 ≤ hold.toNat ∧ hold.toNat ≤ 50 ∧ 1 ≤ window.toNat ∧ window.toNat ≤ 25
      (inRange → exec .setTiming s = .next { s.replied r rest [0x00#8] with
        repeatHold.repeatDelay := delay.toNat * 10
        repeatHold.repeatPeriod := period.toNat * 10
        repeatHold.holdTime := hold.toNat * 100
        repeatHold.chordWindow := window.toNat * 10 }) ∧
      (¬ inRange → exec .setTiming s = .next (s.replied r rest [0x02#8]))) ∧
    (r.payload.length ≠ 4 → exec .setTiming s = .next (s.replied r rest [0x01#8]))

/-- FLUSH_KEYS empties the queue and answers OK with the number of entries removed, markers counted as entries; nothing
else changes; any payload is refused with BAD_LENGTH (R92). -/
def Obligations.FlushKeysEmptiesTheQueueAndCounts : Prop :=
  ∀ (r : Frame) (rest : List Frame) (s : State), s.serves 0x0B#8 r rest →
    (r.payload = [] → exec .flushKeys s =
      .next { s.replied r rest [0x00#8, BitVec.ofNat 8 s.queue.length] with queue := [] }) ∧
    (r.payload ≠ [] → exec .flushKeys s = .next (s.replied r rest [0x01#8]))

/-- SET_ENCODERS (R104, R106, R107): the named channel takes its three settings; a change of the steps per detent, and a
change from off to on, set the accumulator to 0, and the latter takes the pair the pins read and awaits the next tick's
sample (the model's field `sampleDue`, log 5); position, delta, OVER, the running timer and the other channel are kept. A
wrong length is refused with BAD_LENGTH, a field out of range with RANGE. -/
def Obligations.SetEncodersConfiguresTheNamedChannel : Prop :=
  ∀ (r : Frame) (rest : List Frame) (pins : EncoderPins) (s : State), s.serves 0x0C#8 r rest →
    let u := presentEncoderPins pins s
    (∀ channel enabled steps interval : Byte, r.payload = [channel, enabled, steps, interval] →
      let inRange : Prop := channel.toNat ≤ 1 ∧ enabled.toNat ≤ 1 ∧
        (steps.toNat = 1 ∨ steps.toNat = 2 ∨ steps.toNat = 4) ∧ 1 ≤ interval.toNat ∧ interval.toNat ≤ 50
      let set (pair : QuadPair) (e : EncoderChannel) : EncoderChannel :=
        let on : Prop := enabled = 0x01#8 ∧ e.enabled = false
        { e with
          enabled := decide (enabled = 0x01#8)
          stepsPerDetent := steps.toNat
          interval := interval.toNat * 10
          acc := if on ∨ steps.toNat ≠ e.stepsPerDetent then 0 else e.acc
          quad := if on then pair else e.quad
          sampleDue := if enabled = 0x00#8 ∨ e.enabled = false then false else e.sampleDue }
      (inRange → channel = 0x00#8 → exec (.setEncoders pins) s =
        .next { u.replied r rest [0x00#8] with encoders.e0 := set pins.e0 s.encoders.e0 }) ∧
      (inRange → channel = 0x01#8 → exec (.setEncoders pins) s =
        .next { u.replied r rest [0x00#8] with encoders.e1 := set pins.e1 s.encoders.e1 }) ∧
      (¬ inRange → exec (.setEncoders pins) s = .next (u.replied r rest [0x02#8]))) ∧
    (r.payload.length ≠ 4 → exec (.setEncoders pins) s = .next (u.replied r rest [0x01#8]))

/-- WRITE_DISPLAY replaces the records of its run and SET_GLYPHS the entries of its run, each checked whole first (R119 to
R122, R176). For WRITE_DISPLAY the run is given as the records it encodes. Refused with RANGE: a start above 7, a count of
0, a start plus count above 8, and a record of the right length whose mode, attributes, bank or glyph code is out of
range. Refused with BAD_LENGTH, whatever the modes and fields of its records: a payload of fewer than 2 bytes, one that
ends before or inside one of its records, and one that goes on after the last; a record is 4 bytes long in GLYPH and RAW
and 2 in any other mode. SET_GLYPHS likewise, with its bank, its pairs of bytes and 64 codes. -/
def Obligations.DisplayWritesReplaceTheirRuns : Prop :=
  ∀ (r : Frame) (rest : List Frame) (s : State),
    let bit (b : Bool) (n : Nat) : Nat := if b = true then 2 ^ n else 0
    let encode (d : DisplayRecord) : List Byte :=
      let attributes : Byte := BitVec.ofNat 8 (bit d.point 0 + bit d.blink 1 + bit d.dim 2)
      match d.mode with
      | .blank => [0x00#8, attributes]
      | .glyph bank code => [0x01#8, attributes, (if bank = .a then 0x00#8 else 0x01#8), BitVec.ofNat 8 code.val]
      | .raw w => [0x02#8, attributes, w.extractLsb' 8 8, w.extractLsb' 0 8]
    (s.serves 0x0E#8 r rest →
      (∀ (start count : Byte) (records : List DisplayRecord), count.toNat = records.length →
        r.payload = start :: count :: records.flatMap encode →
        (start.toNat ≤ 7 → 1 ≤ records.length → start.toNat + records.length ≤ 8 →
          exec .writeDisplay s = .next { s.replied r rest [0x00#8] with
            display.buffer := Vector.ofFn fun p : Position =>
              if start.toNat ≤ p.val then (records[p.val - start.toNat]?).getD s.display.buffer[p]
              else s.display.buffer[p] }) ∧
        (7 < start.toNat ∨ records.length = 0 ∨ 8 < start.toNat + records.length →
          exec .writeDisplay s = .next (s.replied r rest [0x02#8]))) ∧
      (∀ (start count : Byte) (raw : List (Byte × Byte × List Byte)), count.toNat = raw.length →
        (∀ x ∈ raw, x.2.2.length = if x.1 = 0x01#8 ∨ x.1 = 0x02#8 then 2 else 0) →
        r.payload = start :: count :: raw.flatMap (fun x => x.1 :: x.2.1 :: x.2.2) →
        (∃ x ∈ raw, 2 < x.1.toNat ∨ 7 < x.2.1.toNat ∨
          (x.1 = 0x01#8 ∧ ∃ bank code : Byte, x.2.2 = [bank, code] ∧ (1 < bank.toNat ∨ 63 < code.toNat))) →
        exec .writeDisplay s = .next (s.replied r rest [0x02#8])) ∧
      (∀ (start count : Byte) (raw : List (Byte × Byte × List Byte)) (more : List Byte),
        (∀ x ∈ raw, x.2.2.length = if x.1 = 0x01#8 ∨ x.1 = 0x02#8 then 2 else 0) →
        r.payload = start :: count :: raw.flatMap (fun x => x.1 :: x.2.1 :: x.2.2) ++ more →
        (count.toNat = raw.length → more ≠ [] → exec .writeDisplay s = .next (s.replied r rest [0x01#8])) ∧
        (raw.length < count.toNat →
          (∀ mode fields, more = mode :: fields → more.length < if mode = 0x01#8 ∨ mode = 0x02#8 then 4 else 2) →
          exec .writeDisplay s = .next (s.replied r rest [0x01#8]))) ∧
      (r.payload.length < 2 → exec .writeDisplay s = .next (s.replied r rest [0x01#8]))) ∧
    (s.serves 0x0F#8 r rest →
      (∀ (bank start count : Byte) (patterns : List Pattern), count.toNat = patterns.length →
        r.payload = bank :: start :: count :: patterns.flatMap (fun w => [w.extractLsb' 8 8, w.extractLsb' 0 8]) →
        let inRange : Prop := start.toNat ≤ 63 ∧ 1 ≤ patterns.length ∧ patterns.length ≤ 8 ∧
          start.toNat + patterns.length ≤ 64
        let write (v : Vector Pattern 64) : Vector Pattern 64 := Vector.ofFn fun c : Fin 64 =>
          if start.toNat ≤ c.val then (patterns[c.val - start.toNat]?).getD v[c] else v[c]
        (inRange → bank = 0x00#8 → exec .setGlyphs s =
          .next { s.replied r rest [0x00#8] with display.bankA := write s.display.bankA }) ∧
        (inRange → bank = 0x01#8 → exec .setGlyphs s =
          .next { s.replied r rest [0x00#8] with display.bankB := write s.display.bankB }) ∧
        (1 < bank.toNat ∨ ¬ inRange → exec .setGlyphs s = .next (s.replied r rest [0x02#8]))) ∧
      (∀ (bank start count : Byte) (bytes : List Byte), r.payload = bank :: start :: count :: bytes →
        bytes.length ≠ 2 * count.toNat → exec .setGlyphs s = .next (s.replied r rest [0x01#8])) ∧
      (r.payload.length < 3 → exec .setGlyphs s = .next (s.replied r rest [0x01#8])))

/-- SET_DISPLAY puts its three settings into force together, the blink phase and timer following the table of R124, and
DISPLAY_TEST starts, restarts or ends the test (R123 to R125); wrong lengths are refused with BAD_LENGTH and fields out of
range with RANGE. -/
def Obligations.DisplaySettingsAndTestAreApplied : Prop :=
  ∀ (r : Frame) (rest : List Frame) (s : State),
    (s.serves 0x10#8 r rest →
      (∀ enable brightness half : Byte, r.payload = [enable, brightness, half] →
        let inRange : Prop := enable.toNat ≤ 1 ∧ 1 ≤ brightness.toNat ∧ brightness.toNat ≤ 16 ∧ half.toNat ≤ 8
        (inRange → exec .setDisplay s = .next { s.replied r rest [0x00#8] with
          display.enable := decide (enable = 0x01#8)
          display.brightness := brightness.toNat
          display.blinkHalf := half.toNat
          display.blinkOn :=
            if half = 0x00#8 ∨ s.display.blinkHalf = 0 then true else s.display.blinkOn
          display.blinkTimer :=
            if half = 0x00#8 then none
            else if s.display.blinkHalf = 0 then some (s.scan.panelTime + BitVec.ofNat 16 (125 * half.toNat))
            else s.display.blinkTimer }) ∧
        (¬ inRange → exec .setDisplay s = .next (s.replied r rest [0x02#8]))) ∧
      (r.payload.length ≠ 3 → exec .setDisplay s = .next (s.replied r rest [0x01#8]))) ∧
    (s.serves 0x11#8 r rest →
      (∀ duration : Byte, r.payload = [duration] →
        (duration.toNat ≤ 50 → exec .displayTest s = .next { s.replied r rest [0x00#8] with
          display.testTimer :=
            if duration = 0x00#8 then none
            else some (s.scan.panelTime + BitVec.ofNat 16 (100 * duration.toNat)) }) ∧
        (50 < duration.toNat → exec .displayTest s = .next (s.replied r rest [0x02#8]))) ∧
      (r.payload.length ≠ 1 → exec .displayTest s = .next (s.replied r rest [0x01#8])))

/-- SLEEP is accepted only if the panel is quiet: it stores its mask, clears link-seen, sets SLEEP_PENDING, posts OK and
waits in SLEEP_WAIT; otherwise it is refused with BAD_LENGTH, RANGE or PANEL_BUSY, in that order, and changes nothing else
(R130). -/
def Obligations.SleepIsAcceptedOnlyWhenQuiet : Prop :=
  ∀ (r : Frame) (rest : List Frame) (s : State), s.serves 0x13#8 r rest →
    let eligible (e : EncoderChannel) : Prop := (e.delta ≠ 0 ∨ e.overFlag = true) ∧ e.timer = none
    let quiet : Prop := (∀ k : KeyIndex, (s.record k).phase = .up) ∧ s.chords.held = [] ∧ s.queue = [] ∧
      s.notices.outstanding = [] ∧ s.notices.ready = none ∧ s.notices.wake = none ∧
      s.notices.fault.ghostCount = 0 ∧ s.notices.fault.rolloverCount = 0 ∧ s.notices.fault.e0Count = 0 ∧
      s.notices.fault.e1Count = 0 ∧ ¬ eligible s.encoders.e0 ∧ ¬ eligible s.encoders.e1 ∧ rest = []
    (∀ mask : Byte, r.payload = [mask] →
      (mask.toNat ≤ 7 → quiet → exec .sleep s = .next { s with
        power.state := .sleepPending
        power.mask := { keys := mask.getLsbD 0, e0 := mask.getLsbD 1, e1 := mask.getLsbD 2 }
        power.linkSeen := false
        dispatch :=
          { requests := rest
            replies := s.dispatch.replies ++ [{ kind := 0x93#8, tag := r.tag, payload := [0x00#8] }]
            phase := .sleepWait } }) ∧
      (mask.toNat ≤ 7 → ¬ quiet → exec .sleep s = .next (s.replied r rest [0x04#8])) ∧
      (7 < mask.toNat → exec .sleep s = .next (s.replied r rest [0x02#8]))) ∧
    (r.payload.length ≠ 1 → exec .sleep s = .next (s.replied r rest [0x01#8]))

/-- SET_NOTICES puts the class mask, the window and the acknowledgement timeout into force together and changes no entry,
flag, source or running timer; a wrong length is refused with BAD_LENGTH, a mask bit other than 2 to 4, a window outside 1
to 3 or a timeout outside 2 to 100 steps with RANGE (R175, R176). -/
def Obligations.SetNoticesSetsThreeSettings : Prop :=
  ∀ (r : Frame) (rest : List Frame) (s : State), s.serves 0x14#8 r rest →
    (∀ mask window timeout : Byte, r.payload = [mask, window, timeout] →
      let inRange : Prop := (∀ i : Nat, i < 8 → mask.getLsbD i = true → 2 ≤ i ∧ i ≤ 4) ∧ 1 ≤ window.toNat ∧
        window.toNat ≤ 3 ∧ 2 ≤ timeout.toNat ∧ timeout.toNat ≤ 100
      (inRange → exec .setNotices s = .next { s.replied r rest [0x00#8] with
        notices.mask := { panelFault := mask.getLsbD 2, keys := mask.getLsbD 3, encoder := mask.getLsbD 4 }
        notices.window := window.toNat
        notices.timeout := timeout.toNat * 10 }) ∧
      (¬ inRange → exec .setNotices s = .next (s.replied r rest [0x02#8]))) ∧
    (r.payload.length ≠ 3 → exec .setNotices s = .next (s.replied r rest [0x01#8]))

/-! ### Invariants that every step keeps, from every state that has them -/

/-- The state after reset has every invariant below. -/
def Obligations.ResetStateIsSound : Prop :=
  QueueSound State.reset.queue ∧ PanelSound State.reset ∧ KeysSound State.reset ∧ EncodersSound State.reset ∧
    FaultSound State.reset.notices.fault ∧ LinkSound State.reset.link ∧ DispatchSound State.reset ∧
    NoticesSound State.reset

/-- Every step keeps the key event queue sound: its capacity, the marker in the 16th place, markers apart, one REPEAT
record a key (R76, R83, R84, R87). -/
def Obligations.StepKeepsTheQueueSound : Prop :=
  ∀ s t : State, QueueSound s.queue → step s = .next t → QueueSound t.queue

/-- Every step keeps scan, lines, sweep and display in agreement (R1, R3, R10, R112, R113, R117, R128, R134), from every
state in which the dispatcher is IDLE while the part is ASLEEP (R133), as `StepKeepsTheDispatcherSound` keeps it. -/
def Obligations.StepKeepsThePanelSound : Prop :=
  ∀ s t : State, PanelSound s → DispatchSound s → step s = .next t → PanelSound t

/-- Every step keeps every key record shaped as its state asks (R7, R18, R24, R25). -/
def Obligations.StepKeepsTheKeyRecordsSound : Prop :=
  ∀ s t : State, KeysSound s → step s = .next t → RecordsSound t

/-- Every step keeps the down-set: exactly the keys that are DOWN or BREAKING, each once, at most L, none while ASLEEP
(R44, R45). -/
def Obligations.StepKeepsTheDownSetSound : Prop :=
  ∀ s t : State, KeysSound s → step s = .next t → DownSetSound t

/-- Every step keeps the chord table and the held list sound (R52, R54, R55, R57). -/
def Obligations.StepKeepsTheChordsSound : Prop :=
  ∀ s t : State, KeysSound s → step s = .next t → ChordsSound t

/-- Every step keeps the repeat owner, the repeat timer and the hold timers with keys of the down-set that are neither
chorded nor held back, and the queue empty while ASLEEP (R66, R71, R72, R77, R83). -/
def Obligations.StepKeepsRepeatAndHoldSound : Prop :=
  ∀ s t : State, KeysSound s → step s = .next t → RepeatHoldSound t

/-- Every step keeps both encoder channels, the fault record and the link interface in range (R95, R99, R140, R142, R147,
R149, R166). -/
def Obligations.StepKeepsEncodersFaultsAndLinkSound : Prop :=
  ∀ s t : State, step s = .next t →
    (EncodersSound s → EncodersSound t) ∧ (FaultSound s.notices.fault → FaultSound t.notices.fault) ∧
      (LinkSound s.link → LinkSound t.link)

/-- Every step keeps the request queue and the reply list within their capacities and the dispatcher's state in agreement
with the pending configuration and the power state (R11, R130, R133, R151, R152, R158). -/
def Obligations.StepKeepsTheDispatcherSound : Prop :=
  ∀ s t : State, DispatchSound s → step s = .next t → DispatchSound t

/-- Every step keeps the outstanding list within 3 entries, its sequence numbers consecutive, its try counts 1 to 4, and
the acknowledgement timer only while RUNNING with an entry outstanding (R168, R170, R172, R174). -/
def Obligations.StepKeepsTheNoticesSound : Prop :=
  ∀ s t : State, NoticesSound s → step s = .next t → NoticesSound t

/-- Whole-machine rules. Each setting and table changes by its own request and the two resets alone: the key map (R16:
SET_KEYMAP), the chord slots (R52: SET_CHORD), the timing settings (R71: SET_TIMING), the encoder settings (R95:
SET_ENCODERS), the display buffer (R110: WRITE_DISPLAY), the glyph banks (R111: SET_GLYPHS), the display settings (R112,
R113: SET_DISPLAY), the wake mask (R129: SLEEP) and the notice settings (R168: SET_NOTICES); the scan configuration
changes at a slot end (R13); an encoder position changes at a sample of its own channel (R101); the link rate changes at a
hardware reset alone (R137). RESTART resets them when its OK reply ends (R163). How that reply is told is the model's
choice (log 13). -/
def Obligations.SettingsChangeOnlyByTheirCommands : Prop :=
  ∀ (c : Instr) (s t : State), exec c s = .next t → (∀ cause spd pins, c ≠ .hardwareReset cause spd pins) →
    t.link.rate = s.link.rate ∧
    ((∀ pins f, c = .endOfTransmission pins → s.link.tx = some { frame := f, source := .reply } → f.kind = 0x83#8 →
        f.payload = [0x00#8] → s.dispatch.phase ≠ .restartWait) →
      (c ≠ .setKeymap → t.keys.map = s.keys.map) ∧
      (c ≠ .setChord → t.chords.slots = s.chords.slots) ∧
      (c ≠ .setTiming →
        t.repeatHold.repeatDelay = s.repeatHold.repeatDelay ∧ t.repeatHold.repeatPeriod = s.repeatHold.repeatPeriod ∧
          t.repeatHold.holdTime = s.repeatHold.holdTime ∧ t.repeatHold.chordWindow = s.repeatHold.chordWindow) ∧
      ((∀ pins, c ≠ .setEncoders pins) → ∀ ch : Channel,
        (t.channel ch).enabled = (s.channel ch).enabled ∧
          (t.channel ch).stepsPerDetent = (s.channel ch).stepsPerDetent ∧
          (t.channel ch).interval = (s.channel ch).interval) ∧
      (c ≠ .writeDisplay → t.display.buffer = s.display.buffer) ∧
      (c ≠ .setGlyphs → t.display.bankA = s.display.bankA ∧ t.display.bankB = s.display.bankB) ∧
      (c ≠ .setDisplay →
        t.display.enable = s.display.enable ∧ t.display.brightness = s.display.brightness ∧
          t.display.blinkHalf = s.display.blinkHalf) ∧
      (c ≠ .sleep → t.power.mask = s.power.mask) ∧
      (c ≠ .setNotices →
        t.notices.mask = s.notices.mask ∧ t.notices.window = s.notices.window ∧ t.notices.timeout = s.notices.timeout) ∧
      ((∀ returns, c ≠ .slotEnd returns) → t.scan.config = s.scan.config) ∧
      ∀ ch : Channel, (∀ pins, c ≠ .encoderSample ch pins) → (t.channel ch).position = (s.channel ch).position)
end

