-- ==== Sys2Proof/Laws/State.lean ====
section
/-!
SUPPORT. One lemma per field per update of the named operations, true by unfolding, so that no proof has to unfold a record
update.
-/
namespace Sys2Proof.Machine

/-! ### Replacing one key's record. -/

@[simp] theorem State.setRecord_scan (s : State) (k : KeyIndex) (r : KeyRecord) : (s.setRecord k r).scan = s.scan := rfl
@[simp] theorem State.setRecord_lines (s : State) (k : KeyIndex) (r : KeyRecord) :
    (s.setRecord k r).lines = s.lines := rfl
@[simp] theorem State.setRecord_pins (s : State) (k : KeyIndex) (r : KeyRecord) : (s.setRecord k r).pins = s.pins := rfl
@[simp] theorem State.setRecord_chords (s : State) (k : KeyIndex) (r : KeyRecord) :
    (s.setRecord k r).chords = s.chords := rfl
@[simp] theorem State.setRecord_repeatHold (s : State) (k : KeyIndex) (r : KeyRecord) :
    (s.setRecord k r).repeatHold = s.repeatHold := rfl
@[simp] theorem State.setRecord_queue (s : State) (k : KeyIndex) (r : KeyRecord) :
    (s.setRecord k r).queue = s.queue := rfl
@[simp] theorem State.setRecord_encoders (s : State) (k : KeyIndex) (r : KeyRecord) :
    (s.setRecord k r).encoders = s.encoders := rfl
@[simp] theorem State.setRecord_display (s : State) (k : KeyIndex) (r : KeyRecord) :
    (s.setRecord k r).display = s.display := rfl
@[simp] theorem State.setRecord_power (s : State) (k : KeyIndex) (r : KeyRecord) :
    (s.setRecord k r).power = s.power := rfl
@[simp] theorem State.setRecord_link (s : State) (k : KeyIndex) (r : KeyRecord) : (s.setRecord k r).link = s.link := rfl
@[simp] theorem State.setRecord_dispatch (s : State) (k : KeyIndex) (r : KeyRecord) :
    (s.setRecord k r).dispatch = s.dispatch := rfl
@[simp] theorem State.setRecord_notices (s : State) (k : KeyIndex) (r : KeyRecord) :
    (s.setRecord k r).notices = s.notices := rfl
@[simp] theorem State.setRecord_pending (s : State) (k : KeyIndex) (r : KeyRecord) :
    (s.setRecord k r).pending = s.pending := rfl
@[simp] theorem State.setRecord_map (s : State) (k : KeyIndex) (r : KeyRecord) :
    (s.setRecord k r).keys.map = s.keys.map := rfl
@[simp] theorem State.setRecord_downSet (s : State) (k : KeyIndex) (r : KeyRecord) :
    (s.setRecord k r).keys.downSet = s.keys.downSet := rfl
@[simp] theorem State.setRecord_table (s : State) (k : KeyIndex) (r : KeyRecord) :
    (s.setRecord k r).keys.table = s.keys.table.set k r := rfl

/-! ### Setting or stopping one hold timer. -/

@[simp] theorem State.setHoldTimer_scan (s : State) (k : KeyIndex) (t : Timer) :
    (s.setHoldTimer k t).scan = s.scan := rfl
@[simp] theorem State.setHoldTimer_lines (s : State) (k : KeyIndex) (t : Timer) :
    (s.setHoldTimer k t).lines = s.lines := rfl
@[simp] theorem State.setHoldTimer_pins (s : State) (k : KeyIndex) (t : Timer) :
    (s.setHoldTimer k t).pins = s.pins := rfl
@[simp] theorem State.setHoldTimer_keys (s : State) (k : KeyIndex) (t : Timer) :
    (s.setHoldTimer k t).keys = s.keys := rfl
@[simp] theorem State.setHoldTimer_chords (s : State) (k : KeyIndex) (t : Timer) :
    (s.setHoldTimer k t).chords = s.chords := rfl
@[simp] theorem State.setHoldTimer_queue (s : State) (k : KeyIndex) (t : Timer) :
    (s.setHoldTimer k t).queue = s.queue := rfl
@[simp] theorem State.setHoldTimer_encoders (s : State) (k : KeyIndex) (t : Timer) :
    (s.setHoldTimer k t).encoders = s.encoders := rfl
@[simp] theorem State.setHoldTimer_display (s : State) (k : KeyIndex) (t : Timer) :
    (s.setHoldTimer k t).display = s.display := rfl
@[simp] theorem State.setHoldTimer_power (s : State) (k : KeyIndex) (t : Timer) :
    (s.setHoldTimer k t).power = s.power := rfl
@[simp] theorem State.setHoldTimer_link (s : State) (k : KeyIndex) (t : Timer) :
    (s.setHoldTimer k t).link = s.link := rfl
@[simp] theorem State.setHoldTimer_dispatch (s : State) (k : KeyIndex) (t : Timer) :
    (s.setHoldTimer k t).dispatch = s.dispatch := rfl
@[simp] theorem State.setHoldTimer_notices (s : State) (k : KeyIndex) (t : Timer) :
    (s.setHoldTimer k t).notices = s.notices := rfl
@[simp] theorem State.setHoldTimer_pending (s : State) (k : KeyIndex) (t : Timer) :
    (s.setHoldTimer k t).pending = s.pending := rfl
@[simp] theorem State.setHoldTimer_owner (s : State) (k : KeyIndex) (t : Timer) :
    (s.setHoldTimer k t).repeatHold.owner = s.repeatHold.owner := rfl
@[simp] theorem State.setHoldTimer_timer (s : State) (k : KeyIndex) (t : Timer) :
    (s.setHoldTimer k t).repeatHold.timer = s.repeatHold.timer := rfl
@[simp] theorem State.setHoldTimer_holdTimers (s : State) (k : KeyIndex) (t : Timer) :
    (s.setHoldTimer k t).repeatHold.holdTimers = s.repeatHold.holdTimers.set k t := rfl

/-! ### Handing an event to the queue. -/

@[simp] theorem State.handEvent_scan (e : QueueEntry) (s : State) : (s.handEvent e).scan = s.scan := rfl
@[simp] theorem State.handEvent_lines (e : QueueEntry) (s : State) : (s.handEvent e).lines = s.lines := rfl
@[simp] theorem State.handEvent_pins (e : QueueEntry) (s : State) : (s.handEvent e).pins = s.pins := rfl
@[simp] theorem State.handEvent_keys (e : QueueEntry) (s : State) : (s.handEvent e).keys = s.keys := rfl
@[simp] theorem State.handEvent_chords (e : QueueEntry) (s : State) : (s.handEvent e).chords = s.chords := rfl
@[simp] theorem State.handEvent_repeatHold (e : QueueEntry) (s : State) :
    (s.handEvent e).repeatHold = s.repeatHold := rfl
@[simp] theorem State.handEvent_encoders (e : QueueEntry) (s : State) : (s.handEvent e).encoders = s.encoders := rfl
@[simp] theorem State.handEvent_display (e : QueueEntry) (s : State) : (s.handEvent e).display = s.display := rfl
@[simp] theorem State.handEvent_power (e : QueueEntry) (s : State) : (s.handEvent e).power = s.power := rfl
@[simp] theorem State.handEvent_link (e : QueueEntry) (s : State) : (s.handEvent e).link = s.link := rfl
@[simp] theorem State.handEvent_dispatch (e : QueueEntry) (s : State) : (s.handEvent e).dispatch = s.dispatch := rfl
@[simp] theorem State.handEvent_notices (e : QueueEntry) (s : State) : (s.handEvent e).notices = s.notices := rfl
@[simp] theorem State.handEvent_pending (e : QueueEntry) (s : State) : (s.handEvent e).pending = s.pending := rfl
@[simp] theorem State.handEvent_queue (e : QueueEntry) (s : State) :
    (s.handEvent e).queue = appendEvent e s.queue := rfl

/-! ### Presenting levels on the encoder pins. -/

@[simp] theorem presentEncoderPins_scan (p : EncoderPins) (s : State) : (presentEncoderPins p s).scan = s.scan := rfl
@[simp] theorem presentEncoderPins_lines (p : EncoderPins) (s : State) : (presentEncoderPins p s).lines = s.lines := rfl
@[simp] theorem presentEncoderPins_keys (p : EncoderPins) (s : State) : (presentEncoderPins p s).keys = s.keys := rfl
@[simp] theorem presentEncoderPins_chords (p : EncoderPins) (s : State) :
    (presentEncoderPins p s).chords = s.chords := rfl
@[simp] theorem presentEncoderPins_repeatHold (p : EncoderPins) (s : State) :
    (presentEncoderPins p s).repeatHold = s.repeatHold := rfl
@[simp] theorem presentEncoderPins_queue (p : EncoderPins) (s : State) : (presentEncoderPins p s).queue = s.queue := rfl
@[simp] theorem presentEncoderPins_encoders (p : EncoderPins) (s : State) :
    (presentEncoderPins p s).encoders = s.encoders := rfl
@[simp] theorem presentEncoderPins_display (p : EncoderPins) (s : State) :
    (presentEncoderPins p s).display = s.display := rfl
@[simp] theorem presentEncoderPins_power (p : EncoderPins) (s : State) : (presentEncoderPins p s).power = s.power := rfl
@[simp] theorem presentEncoderPins_link (p : EncoderPins) (s : State) : (presentEncoderPins p s).link = s.link := rfl
@[simp] theorem presentEncoderPins_dispatch (p : EncoderPins) (s : State) :
    (presentEncoderPins p s).dispatch = s.dispatch := rfl
@[simp] theorem presentEncoderPins_notices (p : EncoderPins) (s : State) :
    (presentEncoderPins p s).notices = s.notices := rfl
@[simp] theorem presentEncoderPins_pending (p : EncoderPins) (s : State) :
    (presentEncoderPins p s).pending = s.pending := rfl
@[simp] theorem presentEncoderPins_nrst (p : EncoderPins) (s : State) :
    (presentEncoderPins p s).pins.nrst = s.pins.nrst := rfl
@[simp] theorem presentEncoderPins_spd (p : EncoderPins) (s : State) :
    (presentEncoderPins p s).pins.spd = s.pins.spd := rfl
@[simp] theorem presentEncoderPins_returns (p : EncoderPins) (s : State) :
    (presentEncoderPins p s).pins.returns = s.pins.returns := rfl
@[simp] theorem presentEncoderPins_e0 (p : EncoderPins) (s : State) : (presentEncoderPins p s).pins.e0 = p.e0 := rfl
@[simp] theorem presentEncoderPins_e1 (p : EncoderPins) (s : State) : (presentEncoderPins p s).pins.e1 = p.e1 := rfl

/-! ### Presenting levels on the return lines. -/

@[simp] theorem presentReturns_scan (r : Byte) (s : State) : (presentReturns r s).scan = s.scan := rfl
@[simp] theorem presentReturns_lines (r : Byte) (s : State) : (presentReturns r s).lines = s.lines := rfl
@[simp] theorem presentReturns_keys (r : Byte) (s : State) : (presentReturns r s).keys = s.keys := rfl
@[simp] theorem presentReturns_chords (r : Byte) (s : State) : (presentReturns r s).chords = s.chords := rfl
@[simp] theorem presentReturns_repeatHold (r : Byte) (s : State) : (presentReturns r s).repeatHold = s.repeatHold := rfl
@[simp] theorem presentReturns_queue (r : Byte) (s : State) : (presentReturns r s).queue = s.queue := rfl
@[simp] theorem presentReturns_encoders (r : Byte) (s : State) : (presentReturns r s).encoders = s.encoders := rfl
@[simp] theorem presentReturns_display (r : Byte) (s : State) : (presentReturns r s).display = s.display := rfl
@[simp] theorem presentReturns_power (r : Byte) (s : State) : (presentReturns r s).power = s.power := rfl
@[simp] theorem presentReturns_link (r : Byte) (s : State) : (presentReturns r s).link = s.link := rfl
@[simp] theorem presentReturns_dispatch (r : Byte) (s : State) : (presentReturns r s).dispatch = s.dispatch := rfl
@[simp] theorem presentReturns_notices (r : Byte) (s : State) : (presentReturns r s).notices = s.notices := rfl
@[simp] theorem presentReturns_pending (r : Byte) (s : State) : (presentReturns r s).pending = s.pending := rfl
@[simp] theorem presentReturns_nrst (r : Byte) (s : State) : (presentReturns r s).pins.nrst = s.pins.nrst := rfl
@[simp] theorem presentReturns_returns (r : Byte) (s : State) : (presentReturns r s).pins.returns = r := rfl

/-! ### Posting a frame to the reply list. -/

@[simp] theorem postFrame_scan (f : Frame) (s : State) : (postFrame f s).scan = s.scan := rfl
@[simp] theorem postFrame_lines (f : Frame) (s : State) : (postFrame f s).lines = s.lines := rfl
@[simp] theorem postFrame_pins (f : Frame) (s : State) : (postFrame f s).pins = s.pins := rfl
@[simp] theorem postFrame_keys (f : Frame) (s : State) : (postFrame f s).keys = s.keys := rfl
@[simp] theorem postFrame_chords (f : Frame) (s : State) : (postFrame f s).chords = s.chords := rfl
@[simp] theorem postFrame_repeatHold (f : Frame) (s : State) : (postFrame f s).repeatHold = s.repeatHold := rfl
@[simp] theorem postFrame_queue (f : Frame) (s : State) : (postFrame f s).queue = s.queue := rfl
@[simp] theorem postFrame_encoders (f : Frame) (s : State) : (postFrame f s).encoders = s.encoders := rfl
@[simp] theorem postFrame_display (f : Frame) (s : State) : (postFrame f s).display = s.display := rfl
@[simp] theorem postFrame_power (f : Frame) (s : State) : (postFrame f s).power = s.power := rfl
@[simp] theorem postFrame_link (f : Frame) (s : State) : (postFrame f s).link = s.link := rfl
@[simp] theorem postFrame_notices (f : Frame) (s : State) : (postFrame f s).notices = s.notices := rfl
@[simp] theorem postFrame_pending (f : Frame) (s : State) : (postFrame f s).pending = s.pending := rfl
@[simp] theorem postFrame_requests (f : Frame) (s : State) :
    (postFrame f s).dispatch.requests = s.dispatch.requests := rfl
@[simp] theorem postFrame_phase (f : Frame) (s : State) : (postFrame f s).dispatch.phase = s.dispatch.phase := rfl
@[simp] theorem postFrame_replies (f : Frame) (s : State) :
    (postFrame f s).dispatch.replies = s.dispatch.replies ++ [f] := rfl

/-! ### Answering a request. -/

@[simp] theorem finishRequest_scan (r : Frame) (p : List Byte) (s : State) : (finishRequest r p s).scan = s.scan := rfl
@[simp] theorem finishRequest_lines (r : Frame) (p : List Byte) (s : State) :
    (finishRequest r p s).lines = s.lines := rfl
@[simp] theorem finishRequest_pins (r : Frame) (p : List Byte) (s : State) : (finishRequest r p s).pins = s.pins := rfl
@[simp] theorem finishRequest_keys (r : Frame) (p : List Byte) (s : State) : (finishRequest r p s).keys = s.keys := rfl
@[simp] theorem finishRequest_chords (r : Frame) (p : List Byte) (s : State) :
    (finishRequest r p s).chords = s.chords := rfl
@[simp] theorem finishRequest_repeatHold (r : Frame) (p : List Byte) (s : State) :
    (finishRequest r p s).repeatHold = s.repeatHold := rfl
@[simp] theorem finishRequest_queue (r : Frame) (p : List Byte) (s : State) :
    (finishRequest r p s).queue = s.queue := rfl
@[simp] theorem finishRequest_encoders (r : Frame) (p : List Byte) (s : State) :
    (finishRequest r p s).encoders = s.encoders := rfl
@[simp] theorem finishRequest_display (r : Frame) (p : List Byte) (s : State) :
    (finishRequest r p s).display = s.display := rfl
@[simp] theorem finishRequest_power (r : Frame) (p : List Byte) (s : State) :
    (finishRequest r p s).power = s.power := rfl
@[simp] theorem finishRequest_link (r : Frame) (p : List Byte) (s : State) : (finishRequest r p s).link = s.link := rfl
@[simp] theorem finishRequest_notices (r : Frame) (p : List Byte) (s : State) :
    (finishRequest r p s).notices = s.notices := rfl
@[simp] theorem finishRequest_pending (r : Frame) (p : List Byte) (s : State) :
    (finishRequest r p s).pending = s.pending := rfl
@[simp] theorem finishRequest_requests (r : Frame) (p : List Byte) (s : State) :
    (finishRequest r p s).dispatch.requests = s.dispatch.requests := rfl
@[simp] theorem finishRequest_replies (r : Frame) (p : List Byte) (s : State) :
    (finishRequest r p s).dispatch.replies = s.dispatch.replies ++ [replyTo r p] := rfl

/-! ### Counting a ghost. -/

@[simp] theorem countGhost_scan (k : KeyIndex) (s : State) : (countGhost k s).scan = s.scan := rfl
@[simp] theorem countGhost_lines (k : KeyIndex) (s : State) : (countGhost k s).lines = s.lines := rfl
@[simp] theorem countGhost_pins (k : KeyIndex) (s : State) : (countGhost k s).pins = s.pins := rfl
@[simp] theorem countGhost_keys (k : KeyIndex) (s : State) : (countGhost k s).keys = s.keys := rfl
@[simp] theorem countGhost_chords (k : KeyIndex) (s : State) : (countGhost k s).chords = s.chords := rfl
@[simp] theorem countGhost_repeatHold (k : KeyIndex) (s : State) : (countGhost k s).repeatHold = s.repeatHold := rfl
@[simp] theorem countGhost_queue (k : KeyIndex) (s : State) : (countGhost k s).queue = s.queue := rfl
@[simp] theorem countGhost_encoders (k : KeyIndex) (s : State) : (countGhost k s).encoders = s.encoders := rfl
@[simp] theorem countGhost_display (k : KeyIndex) (s : State) : (countGhost k s).display = s.display := rfl
@[simp] theorem countGhost_power (k : KeyIndex) (s : State) : (countGhost k s).power = s.power := rfl
@[simp] theorem countGhost_link (k : KeyIndex) (s : State) : (countGhost k s).link = s.link := rfl
@[simp] theorem countGhost_dispatch (k : KeyIndex) (s : State) : (countGhost k s).dispatch = s.dispatch := rfl
@[simp] theorem countGhost_pending (k : KeyIndex) (s : State) : (countGhost k s).pending = s.pending := rfl

/-! ### Counting a rollover. -/

@[simp] theorem countRollover_scan (k : KeyIndex) (s : State) : (countRollover k s).scan = s.scan := rfl
@[simp] theorem countRollover_lines (k : KeyIndex) (s : State) : (countRollover k s).lines = s.lines := rfl
@[simp] theorem countRollover_pins (k : KeyIndex) (s : State) : (countRollover k s).pins = s.pins := rfl
@[simp] theorem countRollover_keys (k : KeyIndex) (s : State) : (countRollover k s).keys = s.keys := rfl
@[simp] theorem countRollover_chords (k : KeyIndex) (s : State) : (countRollover k s).chords = s.chords := rfl
@[simp] theorem countRollover_repeatHold (k : KeyIndex) (s : State) :
    (countRollover k s).repeatHold = s.repeatHold := rfl
@[simp] theorem countRollover_queue (k : KeyIndex) (s : State) : (countRollover k s).queue = s.queue := rfl
@[simp] theorem countRollover_encoders (k : KeyIndex) (s : State) : (countRollover k s).encoders = s.encoders := rfl
@[simp] theorem countRollover_display (k : KeyIndex) (s : State) : (countRollover k s).display = s.display := rfl
@[simp] theorem countRollover_power (k : KeyIndex) (s : State) : (countRollover k s).power = s.power := rfl
@[simp] theorem countRollover_link (k : KeyIndex) (s : State) : (countRollover k s).link = s.link := rfl
@[simp] theorem countRollover_dispatch (k : KeyIndex) (s : State) : (countRollover k s).dispatch = s.dispatch := rfl
@[simp] theorem countRollover_pending (k : KeyIndex) (s : State) : (countRollover k s).pending = s.pending := rfl

/-! ### RESTART taking effect. -/

@[simp] theorem restartTakesEffect_pins (s : State) : (restartTakesEffect s).pins = s.pins := rfl
@[simp] theorem restartTakesEffect_pending (s : State) : (restartTakesEffect s).pending = s.pending := rfl
@[simp] theorem restartTakesEffect_rate (s : State) : (restartTakesEffect s).link.rate = s.link.rate := rfl
@[simp] theorem restartTakesEffect_counters (s : State) : (restartTakesEffect s).link.counters = s.link.counters := rfl
@[simp] theorem restartTakesEffect_config (s : State) : (restartTakesEffect s).scan.config = resetConfig := rfl
@[simp] theorem restartTakesEffect_slotRunning (s : State) : (restartTakesEffect s).scan.slotRunning = false := rfl
@[simp] theorem restartTakesEffect_cutSlot (s : State) : (restartTakesEffect s).scan.cutSlot = s.sampledSlot := rfl

/-! ### Waking the part. -/

@[simp] theorem wakePart_lines (c : WakeCause) (s : State) : (wakePart c s).lines = s.lines := rfl
@[simp] theorem wakePart_pins (c : WakeCause) (s : State) : (wakePart c s).pins = s.pins := rfl
@[simp] theorem wakePart_chords (c : WakeCause) (s : State) : (wakePart c s).chords = s.chords := rfl
@[simp] theorem wakePart_repeatHold (c : WakeCause) (s : State) : (wakePart c s).repeatHold = s.repeatHold := rfl
@[simp] theorem wakePart_queue (c : WakeCause) (s : State) : (wakePart c s).queue = s.queue := rfl
@[simp] theorem wakePart_display (c : WakeCause) (s : State) : (wakePart c s).display = s.display := rfl
@[simp] theorem wakePart_link (c : WakeCause) (s : State) : (wakePart c s).link = s.link := rfl
@[simp] theorem wakePart_dispatch (c : WakeCause) (s : State) : (wakePart c s).dispatch = s.dispatch := rfl
@[simp] theorem wakePart_pending (c : WakeCause) (s : State) : (wakePart c s).pending = s.pending := rfl
@[simp] theorem wakePart_config (c : WakeCause) (s : State) : (wakePart c s).scan.config = s.scan.config := rfl
@[simp] theorem wakePart_panelTime (c : WakeCause) (s : State) : (wakePart c s).scan.panelTime = s.scan.panelTime := rfl
@[simp] theorem wakePart_map (c : WakeCause) (s : State) : (wakePart c s).keys.map = s.keys.map := rfl
@[simp] theorem wakePart_mask (c : WakeCause) (s : State) : (wakePart c s).power.mask = s.power.mask := rfl
@[simp] theorem wakePart_outstanding (c : WakeCause) (s : State) :
    (wakePart c s).notices.outstanding = s.notices.outstanding := rfl
@[simp] theorem wakePart_fault (c : WakeCause) (s : State) : (wakePart c s).notices.fault = s.notices.fault := rfl

/-! ### Entering sleep. -/

@[simp] theorem enterSleep_pins (s : State) : (enterSleep s).pins = s.pins := rfl
@[simp] theorem enterSleep_keys (s : State) : (enterSleep s).keys = s.keys := rfl
@[simp] theorem enterSleep_chords (s : State) : (enterSleep s).chords = s.chords := rfl
@[simp] theorem enterSleep_repeatHold (s : State) : (enterSleep s).repeatHold = s.repeatHold := rfl
@[simp] theorem enterSleep_queue (s : State) : (enterSleep s).queue = s.queue := rfl
@[simp] theorem enterSleep_encoders (s : State) : (enterSleep s).encoders = s.encoders := rfl
@[simp] theorem enterSleep_link (s : State) : (enterSleep s).link = s.link := rfl
@[simp] theorem enterSleep_notices (s : State) : (enterSleep s).notices = s.notices := rfl
@[simp] theorem enterSleep_pending (s : State) : (enterSleep s).pending = s.pending := rfl
@[simp] theorem enterSleep_config (s : State) : (enterSleep s).scan.config = s.scan.config := rfl
@[simp] theorem enterSleep_cutSlot (s : State) : (enterSleep s).scan.cutSlot = none := rfl
@[simp] theorem enterSleep_requests (s : State) : (enterSleep s).dispatch.requests = s.dispatch.requests := rfl
@[simp] theorem enterSleep_replies (s : State) : (enterSleep s).dispatch.replies = s.dispatch.replies := rfl

/-! ### Abandoning a sleep entry. -/

@[simp] theorem abandonSleep_scan (c : WakeCause) (s : State) : (abandonSleep c s).scan = s.scan := rfl
@[simp] theorem abandonSleep_lines (c : WakeCause) (s : State) : (abandonSleep c s).lines = s.lines := rfl
@[simp] theorem abandonSleep_pins (c : WakeCause) (s : State) : (abandonSleep c s).pins = s.pins := rfl
@[simp] theorem abandonSleep_keys (c : WakeCause) (s : State) : (abandonSleep c s).keys = s.keys := rfl
@[simp] theorem abandonSleep_chords (c : WakeCause) (s : State) : (abandonSleep c s).chords = s.chords := rfl
@[simp] theorem abandonSleep_repeatHold (c : WakeCause) (s : State) :
    (abandonSleep c s).repeatHold = s.repeatHold := rfl
@[simp] theorem abandonSleep_queue (c : WakeCause) (s : State) : (abandonSleep c s).queue = s.queue := rfl
@[simp] theorem abandonSleep_encoders (c : WakeCause) (s : State) : (abandonSleep c s).encoders = s.encoders := rfl
@[simp] theorem abandonSleep_display (c : WakeCause) (s : State) : (abandonSleep c s).display = s.display := rfl
@[simp] theorem abandonSleep_link (c : WakeCause) (s : State) : (abandonSleep c s).link = s.link := rfl
@[simp] theorem abandonSleep_pending (c : WakeCause) (s : State) : (abandonSleep c s).pending = s.pending := rfl
@[simp] theorem abandonSleep_requests (c : WakeCause) (s : State) :
    (abandonSleep c s).dispatch.requests = s.dispatch.requests := rfl
@[simp] theorem abandonSleep_replies (c : WakeCause) (s : State) :
    (abandonSleep c s).dispatch.replies = s.dispatch.replies := rfl

/-! ### Appending a composed notice. -/

@[simp] theorem appendNotice_scan (c : NoticeContent) (s : State) : (appendNotice c s).scan = s.scan := rfl
@[simp] theorem appendNotice_lines (c : NoticeContent) (s : State) : (appendNotice c s).lines = s.lines := rfl
@[simp] theorem appendNotice_pins (c : NoticeContent) (s : State) : (appendNotice c s).pins = s.pins := rfl
@[simp] theorem appendNotice_keys (c : NoticeContent) (s : State) : (appendNotice c s).keys = s.keys := rfl
@[simp] theorem appendNotice_chords (c : NoticeContent) (s : State) : (appendNotice c s).chords = s.chords := rfl
@[simp] theorem appendNotice_repeatHold (c : NoticeContent) (s : State) :
    (appendNotice c s).repeatHold = s.repeatHold := rfl
@[simp] theorem appendNotice_queue (c : NoticeContent) (s : State) : (appendNotice c s).queue = s.queue := rfl
@[simp] theorem appendNotice_encoders (c : NoticeContent) (s : State) : (appendNotice c s).encoders = s.encoders := rfl
@[simp] theorem appendNotice_display (c : NoticeContent) (s : State) : (appendNotice c s).display = s.display := rfl
@[simp] theorem appendNotice_power (c : NoticeContent) (s : State) : (appendNotice c s).power = s.power := rfl
@[simp] theorem appendNotice_link (c : NoticeContent) (s : State) : (appendNotice c s).link = s.link := rfl
@[simp] theorem appendNotice_dispatch (c : NoticeContent) (s : State) : (appendNotice c s).dispatch = s.dispatch := rfl
@[simp] theorem appendNotice_pending (c : NoticeContent) (s : State) : (appendNotice c s).pending = s.pending := rfl
@[simp] theorem appendNotice_nextSeq (c : NoticeContent) (s : State) :
    (appendNotice c s).notices.nextSeq = s.notices.nextSeq + 1#8 := rfl
@[simp] theorem appendNotice_fault (c : NoticeContent) (s : State) :
    (appendNotice c s).notices.fault = s.notices.fault := rfl

/-! ### Applying a configuration. -/

@[simp] theorem applyConfig_lines (c : ScanConfig) (s : State) : (applyConfig c s).lines = s.lines := rfl
@[simp] theorem applyConfig_pins (c : ScanConfig) (s : State) : (applyConfig c s).pins = s.pins := rfl
@[simp] theorem applyConfig_chords (c : ScanConfig) (s : State) : (applyConfig c s).chords = s.chords := rfl
@[simp] theorem applyConfig_repeatHold (c : ScanConfig) (s : State) : (applyConfig c s).repeatHold = s.repeatHold := rfl
@[simp] theorem applyConfig_queue (c : ScanConfig) (s : State) : (applyConfig c s).queue = s.queue := rfl
@[simp] theorem applyConfig_encoders (c : ScanConfig) (s : State) : (applyConfig c s).encoders = s.encoders := rfl
@[simp] theorem applyConfig_power (c : ScanConfig) (s : State) : (applyConfig c s).power = s.power := rfl
@[simp] theorem applyConfig_link (c : ScanConfig) (s : State) : (applyConfig c s).link = s.link := rfl
@[simp] theorem applyConfig_dispatch (c : ScanConfig) (s : State) : (applyConfig c s).dispatch = s.dispatch := rfl
@[simp] theorem applyConfig_notices (c : ScanConfig) (s : State) : (applyConfig c s).notices = s.notices := rfl
@[simp] theorem applyConfig_pending (c : ScanConfig) (s : State) : (applyConfig c s).pending = s.pending := rfl
@[simp] theorem applyConfig_map (c : ScanConfig) (s : State) :
    (applyConfig c s).keys.map = s.keys.map := by simp only [applyConfig]
@[simp] theorem applyConfig_downSet (c : ScanConfig) (s : State) :
    (applyConfig c s).keys.downSet = s.keys.downSet := by simp only [applyConfig]
@[simp] theorem applyConfig_config (c : ScanConfig) (s : State) :
    (applyConfig c s).scan.config = c := by simp only [applyConfig]

/-! ### Taking a tick. -/

@[simp] theorem tick_lines (s : State) : (tick s).lines = s.lines := rfl
@[simp] theorem tick_pins (s : State) : (tick s).pins = s.pins := rfl
@[simp] theorem tick_keys (s : State) : (tick s).keys = s.keys := rfl
@[simp] theorem tick_chords (s : State) : (tick s).chords = s.chords := rfl
@[simp] theorem tick_repeatHold (s : State) : (tick s).repeatHold = s.repeatHold := rfl
@[simp] theorem tick_queue (s : State) : (tick s).queue = s.queue := rfl
@[simp] theorem tick_display (s : State) : (tick s).display = s.display := rfl
@[simp] theorem tick_power (s : State) : (tick s).power = s.power := rfl
@[simp] theorem tick_link (s : State) : (tick s).link = s.link := rfl
@[simp] theorem tick_dispatch (s : State) : (tick s).dispatch = s.dispatch := rfl
@[simp] theorem tick_notices (s : State) : (tick s).notices = s.notices := rfl
@[simp] theorem tick_pending (s : State) : (tick s).pending = s.pending := rfl
@[simp] theorem tick_config (s : State) : (tick s).scan.config = s.scan.config := rfl
@[simp] theorem tick_pendingScan (s : State) : (tick s).scan.pendingScan = s.scan.pendingScan := rfl
@[simp] theorem tick_slotIndex (s : State) : (tick s).scan.slotIndex = s.scan.slotIndex := rfl
@[simp] theorem tick_slotRunning (s : State) : (tick s).scan.slotRunning = s.scan.slotRunning := rfl
@[simp] theorem tick_cutSlot (s : State) : (tick s).scan.cutSlot = none := rfl
@[simp] theorem tick_panelTime (s : State) : (tick s).scan.panelTime = s.scan.panelTime + 1#16 := rfl

/-! ### Starting a slot. -/

@[simp] theorem startSlot_pins (s : State) : (startSlot s).pins = s.pins := rfl
@[simp] theorem startSlot_keys (s : State) : (startSlot s).keys = s.keys := rfl
@[simp] theorem startSlot_chords (s : State) : (startSlot s).chords = s.chords := rfl
@[simp] theorem startSlot_repeatHold (s : State) : (startSlot s).repeatHold = s.repeatHold := rfl
@[simp] theorem startSlot_queue (s : State) : (startSlot s).queue = s.queue := rfl
@[simp] theorem startSlot_encoders (s : State) : (startSlot s).encoders = s.encoders := rfl
@[simp] theorem startSlot_power (s : State) : (startSlot s).power = s.power := rfl
@[simp] theorem startSlot_link (s : State) : (startSlot s).link = s.link := rfl
@[simp] theorem startSlot_dispatch (s : State) : (startSlot s).dispatch = s.dispatch := rfl
@[simp] theorem startSlot_notices (s : State) : (startSlot s).notices = s.notices := rfl
@[simp] theorem startSlot_pending (s : State) : (startSlot s).pending = s.pending := rfl
@[simp] theorem startSlot_config (s : State) : (startSlot s).scan.config = s.scan.config := rfl
@[simp] theorem startSlot_pendingScan (s : State) : (startSlot s).scan.pendingScan = s.scan.pendingScan := rfl
@[simp] theorem startSlot_slotIndex (s : State) : (startSlot s).scan.slotIndex = s.scan.slotIndex := rfl
@[simp] theorem startSlot_slotRunning (s : State) : (startSlot s).scan.slotRunning = true := rfl
@[simp] theorem startSlot_cutSlot (s : State) : (startSlot s).scan.cutSlot = none := rfl
@[simp] theorem startSlot_panelTime (s : State) : (startSlot s).scan.panelTime = s.scan.panelTime := rfl

/-! ### Driving the lines for a sweep. -/

@[simp] theorem sweepLines_scan (s : State) : (sweepLines s).scan = s.scan := rfl
@[simp] theorem sweepLines_pins (s : State) : (sweepLines s).pins = s.pins := rfl
@[simp] theorem sweepLines_keys (s : State) : (sweepLines s).keys = s.keys := rfl
@[simp] theorem sweepLines_chords (s : State) : (sweepLines s).chords = s.chords := rfl
@[simp] theorem sweepLines_repeatHold (s : State) : (sweepLines s).repeatHold = s.repeatHold := rfl
@[simp] theorem sweepLines_queue (s : State) : (sweepLines s).queue = s.queue := rfl
@[simp] theorem sweepLines_encoders (s : State) : (sweepLines s).encoders = s.encoders := rfl
@[simp] theorem sweepLines_display (s : State) : (sweepLines s).display = s.display := rfl
@[simp] theorem sweepLines_power (s : State) : (sweepLines s).power = s.power := rfl
@[simp] theorem sweepLines_link (s : State) : (sweepLines s).link = s.link := rfl
@[simp] theorem sweepLines_dispatch (s : State) : (sweepLines s).dispatch = s.dispatch := rfl
@[simp] theorem sweepLines_notices (s : State) : (sweepLines s).notices = s.notices := rfl
@[simp] theorem sweepLines_pending (s : State) : (sweepLines s).pending = s.pending := rfl
@[simp] theorem sweepLines_position (s : State) : (sweepLines s).lines.position = 0xFF#8 := rfl
@[simp] theorem sweepLines_segment (s : State) : (sweepLines s).lines.segment = 0x0000#16 := rfl
@[simp] theorem sweepLines_lit (s : State) : (sweepLines s).lines.lit = 0 := rfl
@[simp] theorem sweepLines_swept (s : State) : (sweepLines s).lines.swept = sweepDrive s.scan.config.positions := rfl

/-! ### Returning the receiver to HUNT. -/

@[simp] theorem huntAgain_scan (s : State) : (huntAgain s).scan = s.scan := rfl
@[simp] theorem huntAgain_lines (s : State) : (huntAgain s).lines = s.lines := rfl
@[simp] theorem huntAgain_pins (s : State) : (huntAgain s).pins = s.pins := rfl
@[simp] theorem huntAgain_keys (s : State) : (huntAgain s).keys = s.keys := rfl
@[simp] theorem huntAgain_chords (s : State) : (huntAgain s).chords = s.chords := rfl
@[simp] theorem huntAgain_repeatHold (s : State) : (huntAgain s).repeatHold = s.repeatHold := rfl
@[simp] theorem huntAgain_queue (s : State) : (huntAgain s).queue = s.queue := rfl
@[simp] theorem huntAgain_encoders (s : State) : (huntAgain s).encoders = s.encoders := rfl
@[simp] theorem huntAgain_display (s : State) : (huntAgain s).display = s.display := rfl
@[simp] theorem huntAgain_power (s : State) : (huntAgain s).power = s.power := rfl
@[simp] theorem huntAgain_dispatch (s : State) : (huntAgain s).dispatch = s.dispatch := rfl
@[simp] theorem huntAgain_notices (s : State) : (huntAgain s).notices = s.notices := rfl
@[simp] theorem huntAgain_pending (s : State) : (huntAgain s).pending = s.pending := rfl
@[simp] theorem huntAgain_rx (s : State) : (huntAgain s).link.rx = .hunt := rfl
@[simp] theorem huntAgain_gapTimer (s : State) : (huntAgain s).link.gapTimer = none := rfl
@[simp] theorem huntAgain_rate (s : State) : (huntAgain s).link.rate = s.link.rate := rfl
@[simp] theorem huntAgain_tx (s : State) : (huntAgain s).link.tx = s.link.tx := rfl
@[simp] theorem huntAgain_replyRun (s : State) : (huntAgain s).link.replyRun = s.link.replyRun := rfl
@[simp] theorem huntAgain_reportOwed (s : State) : (huntAgain s).link.reportOwed = s.link.reportOwed := rfl
@[simp] theorem huntAgain_counters (s : State) : (huntAgain s).link.counters = s.link.counters := rfl

/-! ### Releasing a slot. -/

@[simp] theorem releaseSlot_pins (s : State) : (releaseSlot s).pins = s.pins := rfl
@[simp] theorem releaseSlot_keys (s : State) : (releaseSlot s).keys = s.keys := rfl
@[simp] theorem releaseSlot_chords (s : State) : (releaseSlot s).chords = s.chords := rfl
@[simp] theorem releaseSlot_repeatHold (s : State) : (releaseSlot s).repeatHold = s.repeatHold := rfl
@[simp] theorem releaseSlot_queue (s : State) : (releaseSlot s).queue = s.queue := rfl
@[simp] theorem releaseSlot_encoders (s : State) : (releaseSlot s).encoders = s.encoders := rfl
@[simp] theorem releaseSlot_display (s : State) : (releaseSlot s).display = s.display := rfl
@[simp] theorem releaseSlot_power (s : State) : (releaseSlot s).power = s.power := rfl
@[simp] theorem releaseSlot_link (s : State) : (releaseSlot s).link = s.link := rfl
@[simp] theorem releaseSlot_dispatch (s : State) : (releaseSlot s).dispatch = s.dispatch := rfl
@[simp] theorem releaseSlot_notices (s : State) : (releaseSlot s).notices = s.notices := rfl
@[simp] theorem releaseSlot_pending (s : State) : (releaseSlot s).pending = s.pending := rfl
@[simp] theorem releaseSlot_config (s : State) : (releaseSlot s).scan.config = s.scan.config := rfl
@[simp] theorem releaseSlot_pendingScan (s : State) : (releaseSlot s).scan.pendingScan = s.scan.pendingScan := rfl

/-! ### Replacing one encoder channel. -/

@[simp] theorem State.setChannel_scan (s : State) (c : Channel) (e : EncoderChannel) :
    (s.setChannel c e).scan = s.scan := by
  cases c <;> rfl
@[simp] theorem State.setChannel_lines (s : State) (c : Channel) (e : EncoderChannel) :
    (s.setChannel c e).lines = s.lines := by
  cases c <;> rfl
@[simp] theorem State.setChannel_pins (s : State) (c : Channel) (e : EncoderChannel) :
    (s.setChannel c e).pins = s.pins := by
  cases c <;> rfl
@[simp] theorem State.setChannel_keys (s : State) (c : Channel) (e : EncoderChannel) :
    (s.setChannel c e).keys = s.keys := by
  cases c <;> rfl
@[simp] theorem State.setChannel_chords (s : State) (c : Channel) (e : EncoderChannel) :
    (s.setChannel c e).chords = s.chords := by
  cases c <;> rfl
@[simp] theorem State.setChannel_repeatHold (s : State) (c : Channel) (e : EncoderChannel) :
    (s.setChannel c e).repeatHold = s.repeatHold := by
  cases c <;> rfl
@[simp] theorem State.setChannel_queue (s : State) (c : Channel) (e : EncoderChannel) :
    (s.setChannel c e).queue = s.queue := by
  cases c <;> rfl
@[simp] theorem State.setChannel_display (s : State) (c : Channel) (e : EncoderChannel) :
    (s.setChannel c e).display = s.display := by
  cases c <;> rfl
@[simp] theorem State.setChannel_power (s : State) (c : Channel) (e : EncoderChannel) :
    (s.setChannel c e).power = s.power := by
  cases c <;> rfl
@[simp] theorem State.setChannel_link (s : State) (c : Channel) (e : EncoderChannel) :
    (s.setChannel c e).link = s.link := by
  cases c <;> rfl
@[simp] theorem State.setChannel_dispatch (s : State) (c : Channel) (e : EncoderChannel) :
    (s.setChannel c e).dispatch = s.dispatch := by
  cases c <;> rfl
@[simp] theorem State.setChannel_notices (s : State) (c : Channel) (e : EncoderChannel) :
    (s.setChannel c e).notices = s.notices := by
  cases c <;> rfl
@[simp] theorem State.setChannel_pending (s : State) (c : Channel) (e : EncoderChannel) :
    (s.setChannel c e).pending = s.pending := by
  cases c <;> rfl
@[simp] theorem State.setChannel_channel (s : State) (c : Channel) (e : EncoderChannel) :
    (s.setChannel c e).channel c = e := by
  cases c <;> rfl
@[simp] theorem State.setChannel_channel_of_ne (s : State) {c d : Channel} (e : EncoderChannel) (h : d ≠ c) :
    (s.setChannel c e).channel d = s.channel d := by
  cases c <;> cases d <;> first | rfl | exact absurd rfl h

/-! ### Reading a key's record back -/

@[simp] theorem State.setRecord_record (s : State) (k : KeyIndex) (r : KeyRecord) : (s.setRecord k r).record k = r := by
  simp [State.record]
@[simp] theorem State.setRecord_record_of_ne (s : State) {k l : KeyIndex} (r : KeyRecord) (h : l ≠ k) :
    (s.setRecord k r).record l = s.record l := by
  have : k.val ≠ l.val := fun e => h (Fin.ext e.symm)
  simp [State.record, this]
@[simp] theorem State.setRecord_mapEntry (s : State) (k l : KeyIndex) (r : KeyRecord) :
    (s.setRecord k r).mapEntry l = s.mapEntry l := rfl
@[simp] theorem State.handEvent_record (e : QueueEntry) (s : State) (k : KeyIndex) :
    (s.handEvent e).record k = s.record k := rfl
@[simp] theorem State.handEvent_mapEntry (e : QueueEntry) (s : State) (k : KeyIndex) :
    (s.handEvent e).mapEntry k = s.mapEntry k := rfl
@[simp] theorem State.setHoldTimer_record (s : State) (k l : KeyIndex) (t : Timer) :
    (s.setHoldTimer k t).record l = s.record l := rfl

end Sys2Proof.Machine
end

