-- ==== Sys2Proof/Laws/Dispatcher.lean ====
section
/-!
SUPPORT. What the shared operations of a step and of the request dispatcher can do, each said once: `whenLive`, `takeRequest`,
`serve`, `answer` and `finishRequest`. Proofs about a request cite these and never unfold the operations.
-/
namespace Sys2Proof.Machine

/-! ### The frame of every step -/

/-- A step of the part always answers a next state: the step's own after an owed report, the unchanged state while NRST is
low. -/
theorem whenLive_eq (f : State → State) (s : State) :
    whenLive f s = .next (if s.pins.nrst = true then f (deliverReport s) else s) := by
  unfold whenLive; split <;> rfl

/-- A dispatcher's step always answers a next state: its own and then an owed report, the unchanged state while NRST is
low. -/
theorem whenServing_eq (f : State → State) (s : State) :
    whenServing f s = .next (if s.pins.nrst = true then deliverReport (f s) else s) := by
  unfold whenServing; split <;> rfl

/-- Everything the report of a valid frame can do: nothing while RUNNING, and the end of a stall (R174). -/
theorem reportValidFrame_cases (s : State) :
    (s.notices.state = .running ∧ reportValidFrame s = s) ∨
      (s.notices.state = .stalled ∧ reportValidFrame s =
        { s with
          notices.state := .running
          notices.outstanding := s.notices.outstanding.map resumeEntry }) := by
  unfold reportValidFrame
  split
  next h => exact .inl ⟨h, rfl⟩
  next h => exact .inr ⟨h, rfl⟩

/-- The report of a valid frame, as the statements spell it. -/
theorem reportValidFrame_eq (s : State) : reportValidFrame s = s.reported := by
  cases h : s.notices.state with
  | running => simp only [reportValidFrame, State.reported, h]
  | stalled => simp only [reportValidFrame, State.reported, h]; rfl

/-- A report that is not owed changes nothing. -/
@[simp] theorem deliverReport_of_not_owed {s : State} (h : s.link.reportOwed = false) : deliverReport s = s := by
  simp [deliverReport, h]

/-- A report that is owed is made, and owed no longer. -/
theorem deliverReport_of_owed {s : State} (h : s.link.reportOwed = true) :
    deliverReport s = State.reported { s with link.reportOwed := false } := by
  simp [deliverReport, h, reportValidFrame_eq]

/-- Everything an owed report can do: it changes the link's mark and, out of a stall, the notice state and entries. -/
theorem deliverReport_frame (s : State) :
    deliverReport s = { s with
      link.reportOwed := false
      notices.state := (deliverReport s).notices.state
      notices.outstanding := (deliverReport s).notices.outstanding } := by
  cases h : s.link.reportOwed with
  | false => rw [deliverReport_of_not_owed h]; rw [← h]
  | true =>
    rw [deliverReport_of_owed h]
    unfold State.reported
    split <;> rfl

/-- A step of the live part is the step itself. -/
@[simp] theorem whenLive_of_live {f : State → State} {s : State} (h : s.live) : whenLive f s = .next (f s) := by
  simp [whenLive_eq, h.1, h.2]

@[simp] theorem whenLive_of_not_nrst {f : State → State} {s : State} (h : s.pins.nrst = false) :
    whenLive f s = .next s := by
  simp [whenLive_eq, h]

@[simp] theorem whenServing_of_not_nrst {f : State → State} {s : State} (h : s.pins.nrst = false) :
    whenServing f s = .next s := by
  simp [whenServing_eq, h]

/-- A dispatcher's step of the live part is the step itself, if it leaves the link interface's mark alone. -/
theorem whenServing_of_live {f : State → State} {s : State} (h : s.live) (hf : (f s).link.reportOwed = s.link.reportOwed) :
    whenServing f s = .next (f s) := by
  simp [whenServing_eq, h.1, hf.trans h.2]

/-- The arrival of a good byte, as the statements spell it. -/
theorem goodByteArrives_eq (s : State) : goodByteArrives s = s.byteArrived := by
  cases h : s.power.state <;> simp [goodByteArrives, byteArrives, State.byteArrived, h]

/-- A timer that is not running is not due. -/
@[simp] theorem timerDue_none (now : Time) : timerDue none now = false := rfl

/-- A timer just started is not due: every timer is at least 1 ms and at most 5,000 ms long (R9). -/
theorem timerDue_startTimer (t : Time) {ms elapsed : Nat} (hms : ms ≤ 5000) (he : elapsed < 32768) :
    timerDue (startTimer t ms) (t + BitVec.ofNat 16 elapsed) = true ↔ ms ≤ elapsed := by
  have := t.isLt
  simp only [timerDue, startTimer, decide_eq_true_eq, BitVec.toNat_sub, BitVec.toNat_add, BitVec.toNat_ofNat]
  omega

/-- Everything taking a request can do: it takes the oldest request, of the kind asked for, while the dispatcher may take
one, and leaves the rest. -/
theorem takeRequest_cases {kind : Byte} {s t : State} {r : Frame} (h : takeRequest kind s = some (r, t)) :
    ∃ rest, s.dispatch.requests = r :: rest ∧ s.canTake = true ∧ r.kind = kind ∧
      t = { s with dispatch.requests := rest } := by
  unfold takeRequest at h
  split at h
  next q rest hq =>
    split at h
    next hc =>
      simp only [Option.some.injEq, Prod.mk.injEq] at h
      obtain ⟨rfl, rfl⟩ := h
      exact ⟨rest, hq, hc.1, hc.2, rfl⟩
    next => cases h
  next => cases h

/-- Everything serving a request can do: execute the oldest request on the state it has left, or nothing. -/
theorem serve_cases (kind : Byte) (execute : Frame → State → State) (s : State) :
    serve kind execute s = s ∨
      ∃ r rest, s.dispatch.requests = r :: rest ∧ s.canTake = true ∧ r.kind = kind ∧
        serve kind execute s = execute r { s with dispatch.requests := rest } := by
  cases h : takeRequest kind s with
  | none => left; simp [serve, h]
  | some p =>
    obtain ⟨r, t⟩ := p
    obtain ⟨rest, hq, hc, hk, rfl⟩ := takeRequest_cases h
    exact .inr ⟨r, rest, hq, hc, hk, by simp [serve, h]⟩

/-- What `canTake` says. -/
theorem canTake_iff (s : State) :
    s.canTake = true ↔
      (s.dispatch.phase = .idle ∨ s.dispatch.phase = .waitReplySpace) ∧ s.power.state = .awake ∧
        s.dispatch.replies.length < 4 := by
  simp only [State.canTake, Bool.and_eq_true, Bool.or_eq_true, beq_iff_eq, decide_eq_true_eq, and_assoc]
  exact Iff.rfl

/-- At a request, serving it executes it. -/
theorem serve_of_serves {kind : Byte} {r : Frame} {rest : List Frame} {s : State} (execute : Frame → State → State)
    (h : s.serves kind r rest) : serve kind execute s = execute r { s with dispatch.requests := rest } := by
  obtain ⟨-, hp, hd, hl, hq, hk⟩ := h
  have : s.canTake = true := (canTake_iff s).2 ⟨hd, hp, hl⟩
  simp [serve, takeRequest, hq, this, hk]

/-- Answering a request after any effect that leaves the dispatcher alone. -/
theorem finishRequest_eq_replied (r : Frame) (rest : List Frame) (p : List Byte) (s t : State)
    (h : t.dispatch = { s.dispatch with requests := rest }) :
    finishRequest r p t = { t with dispatch := (s.replied r rest p).dispatch } := by
  have h3 : ∀ n : Nat, 4 ≤ n + 1 ↔ 3 ≤ n := by omega
  simp [finishRequest, State.replied, restingPhase, replyTo, replyCapacity, h, h3]

/-- A refused request: its code alone is answered, and nothing else changes. -/
theorem answer_error {α : Type} (code : ResultCode) (effect : α → State → State) (reply : α → State → List Byte)
    (r : Frame) (rest : List Frame) (s : State) :
    answer (.error code) effect reply r { s with dispatch.requests := rest } = s.replied r rest [code.byte] := by
  simp only [answer]
  rw [finishRequest_eq_replied r rest _ s _ rfl]
  rfl

/-- An accepted request whose effect leaves the dispatcher alone: OK and the fields read are answered. -/
theorem answer_ok {α : Type} (a : α) (effect : α → State → State) (reply : α → State → List Byte)
    (r : Frame) (rest : List Frame) (s : State)
    (h : (effect a { s with dispatch.requests := rest }).dispatch = { s.dispatch with requests := rest }) :
    answer (.ok a) effect reply r { s with dispatch.requests := rest } =
      { effect a { s with dispatch.requests := rest } with
        dispatch :=
          (s.replied r rest (0x00#8 :: reply a { s with dispatch.requests := rest })).dispatch } := by
  simp only [answer]
  rw [finishRequest_eq_replied r rest _ s _ h]
  rfl

end Sys2Proof.Machine
end

