-- ==== Sys2Proof/Laws/KeyEvents.lean ====
section
/-!
SUPPORT. What the shared operations of the key path can do, each said once: the append rule, REPEAT merging, and a frame that
every operation from a key's debounce step down to a flush meets.
-/
namespace Sys2Proof.Machine

/-! ### Counts and the append rule -/

/-- A saturating count stays within its cap. -/
theorem satInc_le {cap n : Nat} (h : n ≤ cap) : satInc cap n ≤ cap := by
  unfold satInc; split <;> omega

/-- A saturating count of a cap above 0 is never 0. -/
theorem one_le_satInc {cap n : Nat} (h : 1 ≤ cap) : 1 ≤ satInc cap n := by
  unfold satInc; split <;> omega

/-- Everything the append rule can do (R86): append, open a marker, raise the newest marker, or, on a queue that R83 does
not allow, nothing. -/
theorem appendEvent_cases (e : QueueEntry) (q : List QueueEntry) :
    (q.length ≤ 14 ∧ appendEvent e q = q ++ [e]) ∨
    (∃ older n, q = older ++ [.lost n] ∧ 15 ≤ q.length ∧ appendEvent e q = older ++ [.lost (satInc 255 n)]) ∨
    (q.length = 15 ∧ (∀ n, q.getLast? ≠ some (.lost n)) ∧ appendEvent e q = q ++ [.lost 1]) ∨
    (16 ≤ q.length ∧ (∀ n, q.getLast? ≠ some (.lost n)) ∧ appendEvent e q = q) := by
  unfold appendEvent queueCapacity
  split
  next h => exact .inl ⟨by omega, rfl⟩
  next h =>
    split
    next n hn =>
      obtain ⟨older, rfl⟩ : ∃ older, q = older ++ [.lost n] := by
        obtain ⟨ys, hy⟩ := List.getLast?_eq_some_iff.1 hn
        exact ⟨ys, hy⟩
      exact .inr (.inl ⟨older, n, rfl, by omega, by simp⟩)
    next hn =>
      split
      next hl => exact .inr (.inr (.inl ⟨by omega, hn, rfl⟩))
      next hl => exact .inr (.inr (.inr ⟨by omega, hn, rfl⟩))

/-- Merging touches one REPEAT record of the key, the oldest there is, and changes nothing but its count (R76). -/
theorem raiseRepeat_some {k : KeyIndex} {q q' : List QueueEntry} (h : raiseRepeat k q = some q') :
    ∃ older newer code time count, q = older ++ .repeated code k time count :: newer ∧
      (∀ e ∈ older, e.repeatKey? ≠ some k) ∧
      q' = older ++ .repeated code k time (satInc 255 count) :: newer := by
  induction q generalizing q' with
  | nil => cases h
  | cons e rest ih =>
    have other : ∀ r, raiseRepeat k rest = some r → e.repeatKey? ≠ some k → q' = e :: r →
        ∃ older newer code time count, e :: rest = older ++ .repeated code k time count :: newer ∧
          (∀ e ∈ older, e.repeatKey? ≠ some k) ∧
          q' = older ++ .repeated code k time (satInc 255 count) :: newer := by
      rintro r hr hk rfl
      obtain ⟨older, newer, code, time, count, rfl, ho, rfl⟩ := ih hr
      refine ⟨e :: older, newer, code, time, count, rfl, ?_, rfl⟩
      intro x hx
      rcases List.mem_cons.1 hx with rfl | hx
      · exact hk
      · exact ho x hx
    cases e with
    | repeated code key time count =>
      simp only [raiseRepeat] at h
      split at h
      next hk =>
        subst hk
        simp only [Option.some.injEq] at h
        exact ⟨[], rest, code, time, count, rfl, by simp, h.symm⟩
      next hk =>
        obtain ⟨r, hr, rfl⟩ := Option.map_eq_some_iff.1 h
        exact other r hr (by simpa [QueueEntry.repeatKey?] using hk) rfl
    | _ =>
      obtain ⟨r, hr, rfl⟩ := Option.map_eq_some_iff.1 h
      exact other r hr (by simp [QueueEntry.repeatKey?]) rfl

/-- Without a REPEAT record of the key there is nothing to merge into (R76). -/
theorem raiseRepeat_none {k : KeyIndex} {q : List QueueEntry} (h : ∀ e ∈ q, e.repeatKey? ≠ some k) :
    raiseRepeat k q = none := by
  induction q with
  | nil => rfl
  | cons e rest ih =>
    have hr := ih fun x hx => h x (List.mem_cons_of_mem _ hx)
    have he := h e List.mem_cons_self
    cases e <;> simp_all [raiseRepeat, QueueEntry.repeatKey?]

/-! ### The frame of the key path -/

/-- What no operation of the key path changes: scan, lines, pins, the key map, the chord table, the four timing settings,
the encoders, the display, power, the link, the dispatcher, the notice manager but for the ghost and rollover fields of
the fault record, the waiting commands, and every contact flag. -/
structure KeyPathFrame (s t : State) : Prop where
  scan         : t.scan = s.scan
  lines        : t.lines = s.lines
  pins         : t.pins = s.pins
  map          : t.keys.map = s.keys.map
  slots        : t.chords.slots = s.chords.slots
  repeatDelay  : t.repeatHold.repeatDelay = s.repeatHold.repeatDelay
  repeatPeriod : t.repeatHold.repeatPeriod = s.repeatHold.repeatPeriod
  holdTime     : t.repeatHold.holdTime = s.repeatHold.holdTime
  chordWindow  : t.repeatHold.chordWindow = s.repeatHold.chordWindow
  encoders     : t.encoders = s.encoders
  display      : t.display = s.display
  power        : t.power = s.power
  link         : t.link = s.link
  dispatch     : t.dispatch = s.dispatch
  notices      : { t.notices with fault := s.notices.fault } = s.notices
  e0Count      : t.notices.fault.e0Count = s.notices.fault.e0Count
  e1Count      : t.notices.fault.e1Count = s.notices.fault.e1Count
  pending      : t.pending = s.pending
  contact      : ∀ k : KeyIndex, (t.record k).contact = (s.record k).contact

theorem KeyPathFrame.refl (s : State) : KeyPathFrame s s := by
  constructor <;> intros <;> rfl

theorem KeyPathFrame.trans {s t u : State} (h : KeyPathFrame s t) (g : KeyPathFrame t u) : KeyPathFrame s u := by
  have hn : { u.notices with fault := s.notices.fault } = s.notices := by
    rw [← h.notices, ← g.notices]
  exact ⟨g.scan.trans h.scan, g.lines.trans h.lines, g.pins.trans h.pins, g.map.trans h.map, g.slots.trans h.slots,
    g.repeatDelay.trans h.repeatDelay, g.repeatPeriod.trans h.repeatPeriod, g.holdTime.trans h.holdTime,
    g.chordWindow.trans h.chordWindow, g.encoders.trans h.encoders, g.display.trans h.display, g.power.trans h.power,
    g.link.trans h.link, g.dispatch.trans h.dispatch, hn, g.e0Count.trans h.e0Count, g.e1Count.trans h.e1Count,
    g.pending.trans h.pending, fun k => (g.contact k).trans (h.contact k)⟩

/-- Replacing a record by one with the same contact flag. -/
theorem KeyPathFrame.setRecord (s : State) (k : KeyIndex) (r : KeyRecord) (h : r.contact = (s.record k).contact) :
    KeyPathFrame s (s.setRecord k r) := by
  refine ⟨rfl, rfl, rfl, rfl, rfl, rfl, rfl, rfl, rfl, rfl, rfl, rfl, rfl, rfl, rfl, rfl, rfl, rfl, fun l => ?_⟩
  by_cases hl : l = k
  · subst hl; rw [State.setRecord_record, h]
  · rw [State.setRecord_record_of_ne _ _ hl]

/-- Handing a PRESS on, with repeat and hold begun, meets the frame (R43, R73, R77). -/
theorem handPress_frame (k : KeyIndex) (time : Time) (s : State) : KeyPathFrame s (handPress k time s) := by
  unfold handPress beginHold beginRepeat
  split <;> split <;> constructor <;> intros <;> rfl

/-- A PRESS leaves the key block and the chord matcher as they are. -/
theorem handPress_keys (k : KeyIndex) (time : Time) (s : State) :
    (handPress k time s).keys = s.keys ∧ (handPress k time s).chords = s.chords := by
  unfold handPress beginHold beginRepeat
  split <;> split <;> exact ⟨rfl, rfl⟩

/-- What a PRESS does to the queue, whatever the key's flags are (R43). -/
theorem handPress_queue (k : KeyIndex) (time : Time) (s : State) :
    (handPress k time s).queue = appendEvent (.press (s.mapEntry k).code k time) s.queue := by
  unfold handPress beginHold beginRepeat
  split <;> split <;> rfl

/-- A run of PRESSes meets the frame and leaves the key block and the chord matcher as they are. -/
theorem handPresses_frame (held : List HeldPress) (s : State) :
    KeyPathFrame s (held.foldl (fun s h => handPress h.key h.time s) s) ∧
      (held.foldl (fun s h => handPress h.key h.time s) s).keys = s.keys ∧
      (held.foldl (fun s h => handPress h.key h.time s) s).chords = s.chords := by
  induction held generalizing s with
  | nil => exact ⟨.refl s, rfl, rfl⟩
  | cons h rest ih =>
    obtain ⟨f, hk, hc⟩ := ih (handPress h.key h.time s)
    exact ⟨(handPress_frame h.key h.time s).trans f, hk.trans (handPress_keys ..).1, hc.trans (handPress_keys ..).2⟩

/-- A flush meets the frame, leaves the key block as it is and the matcher IDLE (R59). -/
theorem flushHeld_frame (s : State) :
    KeyPathFrame s (flushHeld s) ∧ (flushHeld s).keys = s.keys ∧ (flushHeld s).chords.held = [] ∧
      (flushHeld s).chords.window = none := by
  obtain ⟨f, hk, hc⟩ := handPresses_frame s.chords.held s
  refine ⟨f.trans ?_, hk, rfl, rfl⟩
  constructor <;> intros <;> rfl

/-- Marking keys as chorded meets the frame and touches the key state table alone (R58). -/
theorem markChorded_frame (keys : List KeyIndex) (s : State) : KeyPathFrame s (keys.foldl markChorded s) := by
  induction keys generalizing s with
  | nil => exact .refl s
  | cons k rest ih =>
    exact (KeyPathFrame.setRecord s k { s.record k with chorded := true } rfl).trans (ih (markChorded s k))

/-- A chord's completion meets the frame and leaves the matcher IDLE (R58). -/
theorem completeChord_frame (slot : SlotIndex) (record : ChordSlot) (s : State) :
    KeyPathFrame s (completeChord slot record s) ∧ (completeChord slot record s).chords.held = [] ∧
      (completeChord slot record s).chords.window = none := by
  have hand : KeyPathFrame s (s.handEvent (.chord record.code slot s.newestHeld)) := by
    constructor <;> intros <;> rfl
  refine ⟨hand.trans ((markChorded_frame s.heldKeys _).trans ?_), rfl, rfl⟩
  constructor <;> intros <;> rfl

/-- Everything the matcher decides on a member key's admission: the chord of an equal slot completes, the held list is
kept, or it is flushed (R57). -/
theorem decideChord_cases (s : State) :
    (∃ slot record, s.equalSlot = some (slot, record) ∧ decideChord s = completeChord slot record s) ∨
      decideChord s = s ∨ decideChord s = flushHeld s := by
  unfold decideChord
  split
  next slot record h =>
    simp only
    split
    · exact .inr (.inl rfl)
    · exact .inl ⟨slot, record, h, rfl⟩
  next =>
    simp only
    split
    · exact .inr (.inl rfl)
    · exact .inr (.inr rfl)

theorem decideChord_frame (s : State) : KeyPathFrame s (decideChord s) := by
  rcases decideChord_cases s with ⟨slot, record, -, h⟩ | h | h <;> rw [h]
  · exact (completeChord_frame slot record s).1
  · exact .refl s
  · exact (flushHeld_frame s).1

theorem admitMember_frame (k : KeyIndex) (s : State) : KeyPathFrame s (admitMember k s) := by
  refine (?_ : KeyPathFrame s _).trans (decideChord_frame _)
  constructor <;> intros <;> rfl

/-- The expiry of the chord window meets the frame and leaves the matcher IDLE (R63). -/
theorem expireWindow_frame (s : State) :
    KeyPathFrame s (expireWindow s) ∧ (expireWindow s).chords.held = [] ∧ (expireWindow s).chords.window = none := by
  unfold expireWindow
  split
  · exact completeChord_frame _ _ s
  · exact ⟨(flushHeld_frame s).1, (flushHeld_frame s).2.2⟩

theorem takeIntoDownSet_frame (k : KeyIndex) (s : State) : KeyPathFrame s (takeIntoDownSet k s) := by
  refine (KeyPathFrame.setRecord s k { s.record k with phase := .down, count := 0, admission := some s.now } rfl).trans ?_
  constructor <;> intros <;> rfl

theorem admitKey_frame (k : KeyIndex) (s : State) : KeyPathFrame s (admitKey k s) := by
  unfold admitKey
  refine (takeIntoDownSet_frame k s).trans ?_
  simp only
  split
  · exact admitMember_frame k _
  · split
    · exact handPress_frame k _ _
    · exact (flushHeld_frame _).1.trans (handPress_frame k _ _)

theorem blockKey_frame (k : KeyIndex) (reason : BlockReason) (s : State) : KeyPathFrame s (blockKey k reason s) :=
  KeyPathFrame.setRecord s k _ rfl

theorem pressAdmission_frame (k : KeyIndex) (s : State) : KeyPathFrame s (pressAdmission k s) := by
  unfold pressAdmission
  split
  · exact (blockKey_frame k .ghost s).trans (by constructor <;> intros <;> rfl)
  · split
    · exact (blockKey_frame k .rollover s).trans (by constructor <;> intros <;> rfl)
    · exact admitKey_frame k s

theorem reportRelease_frame (k : KeyIndex) (s : State) : KeyPathFrame s (reportRelease k s) := by
  unfold reportRelease
  split
  · exact KeyPathFrame.setRecord s k _ rfl
  · split
    · constructor <;> intros <;> rfl
    · exact .refl s

theorem releaseKey_frame (k : KeyIndex) (s : State) : KeyPathFrame s (releaseKey k s) := by
  have leave : KeyPathFrame s (leaveDownSet k s) := by
    refine (KeyPathFrame.setRecord s k { s.record k with phase := .up, count := 0, admission := none } rfl).trans ?_
    constructor <;> intros <;> rfl
  have ends : ∀ t, KeyPathFrame t (endRepeatHold k t) := by
    intro t
    unfold endRepeatHold
    simp only
    split <;> constructor <;> intros <;> rfl
  unfold releaseKey
  simp only
  split
  · exact leave.trans ((flushHeld_frame _).1.trans ((reportRelease_frame k _).trans (ends _)))
  · exact leave.trans ((reportRelease_frame k _).trans (ends _))

theorem setPhase_frame (k : KeyIndex) (phase : KeyPhase) (count : Nat) (s : State) :
    KeyPathFrame s (setPhase k phase count s) :=
  KeyPathFrame.setRecord s k _ rfl

/-- Everything a debounce step can do: nothing, one record's state and count, the silent exit from BLOCKED, press
admission, or the release path (R19 to R25). -/
theorem debounceStep_cases (k : KeyIndex) (s : State) :
    debounceStep k s = s ∨ (∃ phase count, debounceStep k s = setPhase k phase count s) ∨
      ((s.record k).phase = .blocked ∧ debounceStep k s =
        s.setRecord k { s.record k with phase := .up, count := 0, blockReason := none }) ∨
      ((s.record k).contact = true ∧ ((s.record k).phase = .up ∨ (s.record k).phase = .making) ∧
        debounceStep k s = pressAdmission k s) ∨
      ((s.record k).contact = false ∧ ((s.record k).phase = .down ∨ (s.record k).phase = .breaking) ∧
        debounceStep k s = releaseKey k s) := by
  have closed : ∀ n, (s.record k).contact = true → ((s.record k).phase = .up ∨ (s.record k).phase = .making) →
      (∃ p m, closedRun k n s = setPhase k p m s) ∨
        ((s.record k).contact = true ∧ ((s.record k).phase = .up ∨ (s.record k).phase = .making) ∧
          closedRun k n s = pressAdmission k s) := by
    intro n hc hp
    unfold closedRun
    split
    · exact .inr ⟨hc, hp, rfl⟩
    · exact .inl ⟨_, _, rfl⟩
  have opened : ∀ n, (s.record k).contact = false → ((s.record k).phase = .down ∨ (s.record k).phase = .breaking) →
      (∃ p m, openRun k n s = setPhase k p m s) ∨
        ((s.record k).contact = false ∧ ((s.record k).phase = .down ∨ (s.record k).phase = .breaking) ∧
          openRun k n s = releaseKey k s) := by
    intro n hc hp
    unfold openRun
    split
    · exact .inr ⟨hc, hp, rfl⟩
    · exact .inl ⟨_, _, rfl⟩
  unfold debounceStep
  simp only
  split
  next hp =>
    split
    · exact .inr (.inl ⟨_, _, rfl⟩)
    · unfold blockedRun
      split
      · exact .inr (.inr (.inl ⟨hp, rfl⟩))
      · exact .inr (.inl ⟨_, _, rfl⟩)
  next =>
    split
    · exact .inl rfl
    · split
      next hp =>
        split
        next hc => exact (closed 1 hc (.inl hp)).elim (fun h => .inr (.inl h)) fun h => .inr (.inr (.inr (.inl h)))
        next => exact .inr (.inl ⟨_, _, rfl⟩)
      next hp =>
        split
        next hc => exact (closed _ hc (.inr hp)).elim (fun h => .inr (.inl h)) fun h => .inr (.inr (.inr (.inl h)))
        next => exact .inr (.inl ⟨_, _, rfl⟩)
      next hp =>
        split
        next => exact .inr (.inl ⟨_, _, rfl⟩)
        next hc =>
          exact (opened 1 (by simpa using hc) (.inl hp)).elim (fun h => .inr (.inl h))
            fun h => .inr (.inr (.inr (.inr h)))
      next hp =>
        split
        next => exact .inr (.inl ⟨_, _, rfl⟩)
        next hc =>
          exact (opened _ (by simpa using hc) (.inr hp)).elim (fun h => .inr (.inl h))
            fun h => .inr (.inr (.inr (.inr h)))
      next => exact .inl rfl

theorem debounceStep_frame (k : KeyIndex) (s : State) : KeyPathFrame s (debounceStep k s) := by
  rcases debounceStep_cases k s with h | ⟨phase, count, h⟩ | ⟨-, h⟩ | ⟨-, -, h⟩ | ⟨-, -, h⟩ <;> rw [h]
  · exact .refl s
  · exact setPhase_frame k phase count s
  · exact KeyPathFrame.setRecord s k _ rfl
  · exact pressAdmission_frame k s
  · exact releaseKey_frame k s

end Sys2Proof.Machine
end

