-- ==== Sys2Proof/Laws/Exec.lean ====
section
/-!
SUPPORT. What a command can do as a whole: it always answers a next state, and it never touches the queue of the commands
that are waiting. With them `step` is taken apart once.
-/
namespace Sys2Proof.Machine

/-! ### Every command answers a next state -/

/-- No command faults or is refused: `exec` answers a next state for every command in every state. -/
theorem exec_next (c : Instr) (s : State) : ∃ t, exec c s = .next t := by
  cases c
  case hardwareReset cause spd pins =>
    simp only [exec, execHardwareReset]
    split <;> exact ⟨_, rfl⟩
  case nrstHeldLow => exact ⟨_, rfl⟩
  all_goals
    simp only [exec, execMillisecondTick, execSlotStart, execSlotEnd, execChordWindowExpiry, execRepeatTimerExpiry,
      execHoldTimerExpiry, execEncoderSample, execCoalescingTimerExpiry, execEncoderPinChange,
      execBlinkTimerExpiry, execTestTimerExpiry, execWakeSweep, execReceiveByte, execFramingError,
      execGapTimerExpiry, execAck, execRequestArrival, execUnknownKindFrame, execArbiterChoice,
      execEndOfTransmission, execNoticeComposition, execAcknowledgementTimerExpiry, execIdentify, execGetStatus,
      execRestart, execSetScan, execSetKeymap, execGetKeymap, execReadKeys, execSetChord, execGetChord,
      execSetTiming, execFlushKeys, execSetEncoders, execReadEncoders, execWriteDisplay, execSetGlyphs,
      execSetDisplay, execDisplayTest, execReadDisplay, execSleep, execSetNotices, execGetLinkStats]
    first | exact ⟨_, whenLive_eq _ s⟩ | exact ⟨_, whenServing_eq _ s⟩

/-- Everything a step can do: idle on an empty queue, or run the command at the front on the rest. -/
theorem step_cases {s t : State} (h : step s = .next t) :
    (s.pending = [] ∧ t = s) ∨ ∃ c rest, s.pending = c :: rest ∧ exec c { s with pending := rest } = .next t := by
  unfold step at h
  split at h
  next hp => exact .inl ⟨hp, by injection h with h; exact h.symm⟩
  next c rest hp => exact .inr ⟨c, rest, hp, h⟩

/-- An invariant that every command keeps and that does not read the queue of waiting commands is kept by every step. -/
theorem step_keeps {Inv : State → Prop} (pending : ∀ s rest, Inv s → Inv { s with pending := rest })
    (keeps : ∀ c s t, Inv s → exec c s = .next t → Inv t) {s t : State} (hi : Inv s) (h : step s = .next t) : Inv t := by
  rcases step_cases h with ⟨-, rfl⟩ | ⟨c, rest, -, he⟩
  · exact hi
  · exact keeps c _ t (pending s rest hi) he

/-- Every command that is a step of the part out of reset is taken apart once: it answers its own state, an owed report
made first, or, while NRST is low, the unchanged one. -/
theorem whenLive_next {f : State → State} {s t : State} (h : whenLive f s = .next t) :
    (s.pins.nrst = true ∧ t = f (deliverReport s)) ∨ (s.pins.nrst = false ∧ t = s) := by
  rw [whenLive_eq] at h
  injection h with h
  cases hn : s.pins.nrst
  · exact .inr ⟨rfl, by simpa [hn] using h.symm⟩
  · exact .inl ⟨rfl, by simpa [hn] using h.symm⟩

/-- The same for an execution of a request, an owed report made after it. -/
theorem whenServing_next {f : State → State} {s t : State} (h : whenServing f s = .next t) :
    (s.pins.nrst = true ∧ t = deliverReport (f s)) ∨ (s.pins.nrst = false ∧ t = s) := by
  rw [whenServing_eq] at h
  injection h with h
  cases hn : s.pins.nrst
  · exact .inr ⟨rfl, by simpa [hn] using h.symm⟩
  · exact .inl ⟨rfl, by simpa [hn] using h.symm⟩

/-! ### A property of states through serving and answering -/

/-- A property that taking a request, its effect and its reply keep is kept by serving it. -/
theorem serve_keeps {Inv : State → Prop} {kind : Byte} {execute : Frame → State → State} {s : State} (hi : Inv s)
    (h : ∀ r rest, s.dispatch.requests = r :: rest → s.canTake = true → r.kind = kind →
      Inv (execute r { s with dispatch.requests := rest })) : Inv (serve kind execute s) := by
  rcases serve_cases kind execute s with he | ⟨r, rest, hq, hc, hk, he⟩ <;> rw [he]
  · exact hi
  · exact h r rest hq hc hk

/-- A property that a refusal's reply and an accepted request's effect with its reply have is one that answering has. -/
theorem answer_keeps {α : Type} {Inv : State → Prop} {fields : Read α} {effect : α → State → State}
    {reply : α → State → List Byte} {r : Frame} {s : State} (refused : ∀ p, Inv (finishRequest r p s))
    (accepted : ∀ a p, fields = .ok a → Inv (finishRequest r p (effect a s))) :
    Inv (answer fields effect reply r s) := by
  unfold answer
  split
  · exact refused _
  · exact accepted _ _ rfl

/-! ### The wake sweep -/

/-- A sweep drives exactly the scanned position lines low (R134). -/
theorem sweepDrive_getLsbD (n : Nat) (p : Position) : (sweepDrive n).getLsbD p.val = decide (n ≤ p.val) := by
  have hp := p.isLt
  have h : ∀ i : Nat, i < 8 → (0xFF#8).getLsbD i = true := by decide
  simp only [sweepDrive, BitVec.getLsbD_shiftLeft]
  by_cases hn : n ≤ p.val
  · simp [hp, hn, h (p.val - n) (by omega)]
  · simp [hp, hn]

/-! ### The sample event -/

/-- Taking the eight contact flags of a position changes no record but theirs, and of those the contact flag alone. -/
theorem updateContacts_record (p : Position) (lines : List ReturnLine) (s : State) (k : KeyIndex) :
    (lines.foldl (updateContact p) s).record k =
        { s.record k with contact := ((lines.foldl (updateContact p) s).record k).contact } ∧
      (keyPosition k ≠ p → (lines.foldl (updateContact p) s).record k = s.record k) := by
  induction lines generalizing s with
  | nil => exact ⟨rfl, fun _ => rfl⟩
  | cons l rest ih =>
    obtain ⟨h1, h2⟩ := ih (updateContact p s l)
    have hu : (updateContact p s l).record k =
        if k = keyAt p l then { s.record k with contact := !s.pins.returns.getLsbD l.val } else s.record k := by
      unfold updateContact
      split
      next hk => subst hk; exact State.setRecord_record ..
      next hk => exact State.setRecord_record_of_ne _ _ hk
    refine ⟨?_, fun hp => ?_⟩
    · rw [List.foldl_cons, h1, hu]
      split <;> rfl
    · rw [List.foldl_cons, h2 hp, hu, if_neg]
      rintro rfl
      exact hp (by simp only [keyPosition, keyAt]; ext; simp; omega)

/-- Debounce steps in a row meet the frame of the key path. -/
theorem debounceSteps_frame (p : Position) (lines : List ReturnLine) (s : State) :
    KeyPathFrame s (lines.foldl (fun s l => debounceStep (keyAt p l) s) s) := by
  induction lines generalizing s with
  | nil => exact .refl s
  | cons l rest ih => exact (debounceStep_frame (keyAt p l) s).trans (ih _)

/-- A sample event leaves the scan engine, the lines and the pins as they are. -/
theorem sampleEvent_scan (p : Position) (s : State) :
    (sampleEvent p s).scan = s.scan ∧ (sampleEvent p s).lines = s.lines ∧ (sampleEvent p s).pins = s.pins := by
  have contacts : ∀ (lines : List ReturnLine) (u : State), (lines.foldl (updateContact p) u).scan = u.scan ∧
      (lines.foldl (updateContact p) u).lines = u.lines ∧ (lines.foldl (updateContact p) u).pins = u.pins := by
    intro lines
    induction lines with
    | nil => exact fun _ => ⟨rfl, rfl, rfl⟩
    | cons l rest ih => exact fun u => ih (updateContact p u l)
  have steps := debounceSteps_frame p allLines (allLines.foldl (updateContact p) s)
  obtain ⟨h1, h2, h3⟩ := contacts allLines s
  exact ⟨steps.scan.trans h1, steps.lines.trans h2, steps.pins.trans h3⟩

/-- Everything a SLOT_END can do: it ends the slot in progress, or takes the key sample that RESTART, taken first at that
instant, has left, or is no event (R4, R164). -/
theorem takeReading_cases (returns : Byte) (s : State) :
    (s.power.state ≠ .asleep ∧ s.scan.slotRunning = true ∧ takeReading returns s = endSlot (presentReturns returns s)) ∨
    (∃ p, s.power.state ≠ .asleep ∧ s.scan.slotRunning = false ∧ s.scan.cutSlot = some p ∧
      takeReading returns s = sampleCutSlot p (presentReturns returns s)) ∨
    ((s.power.state = .asleep ∨ s.scan.slotRunning = false ∧ s.scan.cutSlot = none) ∧ takeReading returns s = s) := by
  by_cases ha : s.power.state = .asleep
  · exact .inr (.inr ⟨.inl ha, by simp [takeReading, State.slotMayEnd, State.cutSample, ha]⟩)
  · cases hr : s.scan.slotRunning
    · cases hc : s.scan.cutSlot with
      | none => exact .inr (.inr ⟨.inr ⟨rfl, rfl⟩, by simp [takeReading, State.slotMayEnd, State.cutSample, hr, hc]⟩)
      | some p =>
        exact .inr (.inl ⟨p, ha, rfl, rfl, by simp [takeReading, State.slotMayEnd, State.cutSample, ha, hr, hc]⟩)
    · exact .inl ⟨ha, rfl, by simp [takeReading, State.slotMayEnd, ha, hr]⟩

/-- The key sample after RESTART leaves the scan engine and the lines as they are, but that it has been taken (R164). -/
theorem sampleCutSlot_scan (p : Position) (s : State) :
    (sampleCutSlot p s).scan = { s.scan with cutSlot := none } ∧ (sampleCutSlot p s).lines = s.lines ∧
      (sampleCutSlot p s).pins = s.pins :=
  sampleEvent_scan p { s with scan.cutSlot := none }

end Sys2Proof.Machine
end

