-- ==== Sys2Proof/Laws/Link.lean ====
section
/-!
SUPPORT. What the shared operations of the link interface and the notice manager can do, each said once.
-/
namespace Sys2Proof.Machine

/-- Everything the completion of a frame held can do: the frame, of the sort asked for, is settled on the state its good
check byte leaves, or nothing happens (R144). -/
theorem completeHeld_cases (sort : Byte → Bool) (settle : Frame → State → State) (s : State) :
    completeHeld sort settle s = s ∨
      ∃ f, s.frameHeld = some f ∧ sort f.kind = true ∧
        completeHeld sort settle s = settle f (huntAgain (goodByteArrives s)) := by
  unfold completeHeld
  split
  next f h =>
    split
    next hs => exact .inr ⟨f, h, hs, rfl⟩
    next => exact .inl rfl
  next => exact .inl rfl

/-- The frame held is the one whose body the receiver in CHECK has gathered (R140). -/
theorem frameHeld_of_check {s : State} {len : Nat} {kind tag : Byte} {payload : List Byte}
    (h : s.link.rx = .check len (kind :: tag :: payload)) :
    s.frameHeld = some { kind := kind, tag := tag, payload := payload } := by
  simp [State.frameHeld, h, frameOfBody]

/-- A frame held of the sort asked for is completed. -/
theorem completeHeld_of_held {sort : Byte → Bool} {f : Frame} {s : State} (settle : Frame → State → State)
    (h : s.frameHeld = some f) (hs : sort f.kind = true) :
    completeHeld sort settle s = settle f (huntAgain (goodByteArrives s)) := by
  simp [completeHeld, h, hs]

/-- The hand-on of a frame follows its kind alone: one of three settlements, and then the report (R144). -/
theorem handOn_cases (f : Frame) (s : State) :
    (isRequestKind f.kind = true ∧ handOn f s = reportValidFrame (settleArrival f s)) ∨
      (isRequestKind f.kind = false ∧ f.kind = ackKind ∧ handOn f s = reportValidFrame (settleAck f s)) ∨
      (isKnownKind f.kind = false ∧ handOn f s = reportValidFrame (settleUnknown f s)) := by
  unfold handOn settleFrame
  cases hr : isRequestKind f.kind with
  | true => exact .inl ⟨rfl, by simp⟩
  | false =>
    by_cases ha : f.kind = ackKind
    · exact .inr (.inl ⟨rfl, ha, by simp [ha]⟩)
    · exact .inr (.inr ⟨by simp [isKnownKind, hr, ha], by simp [ha]⟩)

/-- The entries an acknowledged sequence number leaves are those behind its entry (R171). -/
theorem entriesAfter_some {seq : Byte} {q left : List OutstandingNotice} (h : entriesAfter seq q = some left) :
    ∃ older n, q = older ++ n :: left ∧ n.seq = seq ∧ ∀ o ∈ older, o.seq ≠ seq := by
  induction q with
  | nil => cases h
  | cons n rest ih =>
    simp only [entriesAfter] at h
    split at h
    next hn =>
      injection h with h; subst h
      exact ⟨[], n, rfl, hn, by simp⟩
    next hn =>
      obtain ⟨older, m, rfl, hm, ho⟩ := ih h
      refine ⟨n :: older, m, rfl, hm, fun x hx => ?_⟩
      rcases List.mem_cons.1 hx with rfl | hx
      · exact hn
      · exact ho x hx

/-- A sequence number of no outstanding entry leaves nothing to acknowledge (R171). -/
theorem entriesAfter_none {seq : Byte} {q : List OutstandingNotice} (h : ∀ n ∈ q, n.seq ≠ seq) :
    entriesAfter seq q = none := by
  induction q with
  | nil => rfl
  | cons n rest ih =>
    simp [entriesAfter, h n List.mem_cons_self, ih fun m hm => h m (List.mem_cons_of_mem _ hm)]

/-- The notice the arbiter's notice source offers is the oldest one that is not SENT, and becomes SENT in its place
(R147). -/
theorem offerNotice_some {q left : List OutstandingNotice} {n : OutstandingNotice} (h : offerNotice q = some (n, left)) :
    ∃ older newer, q = older ++ n :: newer ∧ (∀ o ∈ older, o.transmit = .sent) ∧ n.transmit ≠ .sent ∧
      left = older ++ { n with transmit := .sent } :: newer := by
  induction q generalizing left with
  | nil => cases h
  | cons m rest ih =>
    simp only [offerNotice] at h
    split at h
    next hm =>
      obtain ⟨o, ho, he⟩ := Option.map_eq_some_iff.1 h
      obtain ⟨p, l⟩ := o
      simp only [Prod.mk.injEq] at he
      obtain ⟨rfl, rfl⟩ := he
      obtain ⟨older, newer, rfl, hs, hn, rfl⟩ := ih ho
      refine ⟨m :: older, newer, rfl, fun x hx => ?_, hn, rfl⟩
      rcases List.mem_cons.1 hx with rfl | hx
      · exact hm
      · exact hs x hx
    next hm =>
      simp only [Option.some.injEq, Prod.mk.injEq] at h
      obtain ⟨rfl, rfl⟩ := h
      exact ⟨[], rest, rfl, by simp, hm, rfl⟩

/-- Nothing is offered while every entry is SENT (R147). -/
theorem offerNotice_none {q : List OutstandingNotice} (h : ∀ n ∈ q, n.transmit = .sent) : offerNotice q = none := by
  induction q with
  | nil => rfl
  | cons n rest ih =>
    simp [offerNotice, h n List.mem_cons_self, ih fun m hm => h m (List.mem_cons_of_mem _ hm)]

/-- A link counter within its cap stays within it (R149). -/
theorem bump_le {n : Nat} (h : n ≤ 65535) : bump n ≤ 65535 := satInc_le h

/-- The encoded bytes of an entry are as many as its size says (R90). -/
theorem queueEntry_bytes_length (e : QueueEntry) : e.bytes.length = e.size := by
  cases e <;> rfl

/-- The class that is composed is pending and enabled (R169). -/
theorem dueClass_some {s : State} {c : NoticeClass} (h : s.dueClass = some c) :
    s.classPending c = true ∧ s.notices.mask.enables c = true := by
  have := List.find?_some h
  simpa using this

end Sys2Proof.Machine
end

