-- ==== Sys2Proof/Tests/Slice0.lean ====
section
/-!
SUPPORT. The tests. Part 1: one-step tests whose expected results stand in the spec's worked frames and worked sequences.
Part 2: for every statement with hypotheses, states and operands that meet them, each clause at a boundary of its range.
-/
namespace Sys2Proof.Tests
open Sys2Proof Sys2Proof.Machine

/-! ### Helpers -/

/-- The state a command answers. -/
def after (c : Instr) (s : State) : State :=
  match exec c s with
  | .next t => t
  | _ => s

/-- The encoder pins at rest. -/
def rest11 : EncoderPins := ⟨3#2, 3#2⟩

/-- The part after reset with one request waiting, tag 0x05. -/
def requesting (kind : Byte) (payload : List Byte) : State :=
  { State.reset with dispatch.requests := [⟨kind, 0x05#8, payload⟩] }

theorem requesting_serves (kind : Byte) (payload : List Byte) :
    (requesting kind payload).serves kind ⟨kind, 0x05#8, payload⟩ [] :=
  ⟨⟨rfl, rfl⟩, rfl, .inl rfl, (by decide : 0 < 4), rfl, rfl⟩

/-- The part after reset, holding a frame in CHECK but for its check byte. -/
def handing (f : Frame) : State :=
  { State.reset with
    link.lineHeld := false
    link.rx := .check (f.payload.length + 2) (f.kind :: f.tag :: f.payload)
    link.gapTimer := some 6#16 }

/-- A key that is DOWN since panel time `t`. -/
def downRecord (t : Time) : KeyRecord :=
  { phase := .down, contact := true, count := 0, blockReason := none, chorded := false, admission := some t }

/-- Chapter "Chord Matching", worked sequences: slot 0 holds {4, 5} with code 0x40, slot 1 {4, 5, 6} with code 0x41; keys
4 and 5 were admitted at 3017 and 3033, and the window expires at 3067. -/
def collecting (now : Time) : State :=
  { State.reset with
    scan.panelTime := now
    keys.table := (State.reset.keys.table.set 4 (downRecord 3017#16)).set 5 (downRecord 3033#16)
    keys.downSet := [4, 5]
    chords.slots := (State.reset.chords.slots.set 0 (some ⟨0x40#8, [4, 5]⟩)).set 1 (some ⟨0x41#8, [4, 5, 6]⟩)
    chords.held := [⟨4, 3017#16⟩, ⟨5, 3033#16⟩]
    chords.window := some 3067#16 }

/-- The part ASLEEP, with a sweep due at 4020. -/
def sleeping (now : Time) : State :=
  { State.reset with
    scan.panelTime := now
    power.state := .asleep
    power.sweep := some 4020#16 }

/-- A notice with sequence number 9 outstanding. -/
def outstanding (t : TransmitState) (tries : Nat) : State :=
  { State.reset with
    notices.outstanding := [⟨0x09#8, .ready .power, tries, t⟩]
    notices.nextSeq := 0x0A#8
    notices.ready := none
    notices.timer := some 100#16 }

/-! ### Part 1: the well-formedness check, and worked examples of the spec -/

/-- The one check of WellFormed refuses the one ill-formed term (R167). -/
theorem test_softHardwareReset_is_ill_formed : (Instr.hardwareReset .soft true rest11).wellFormed = false := by decide

/-- No row of the table has bits, so no word spells a command. -/
theorem test_decode_refuses_words : decodeTableWord 8 0x01 = none := by decide

/-- 10, "Worked frames": GET_STATUS, tag 0x05. -/
theorem test_getStatus_frame : (⟨0x02#8, 0x05#8, []⟩ : Frame).bytes = [0xC3#8, 0x02#8, 0x02#8, 0x05#8, 0xF7#8] := by decide

/-- 10, "Worked frames": the BAD_LENGTH reply to a GET_STATUS with a stray byte. -/
theorem test_badLength_reply_frame :
    (after .getStatus (requesting 0x02#8 [0x00#8])).dispatch.replies.map Frame.bytes =
      [[0xC3#8, 0x03#8, 0x82#8, 0x05#8, 0x01#8, 0x75#8]] := by decide

/-- 10, "Worked frames": the reject frame that answers kind 0x30, tag 0x07. -/
theorem test_reject_frame :
    (after .unknownKindFrame (handing ⟨0x30#8, 0x07#8, []⟩)).dispatch.replies.map Frame.bytes =
      [[0xC3#8, 0x04#8, 0xBF#8, 0x07#8, 0x06#8, 0x30#8, 0x00#8]] := by decide

/-- 10, "Worked frames": the check byte of GET_STATUS hands the frame on at once. -/
theorem test_check_byte_hands_on :
    (after (.receiveByte 0xF7#8 true rest11) (handing ⟨0x02#8, 0x05#8, []⟩)).dispatch.requests =
      [⟨0x02#8, 0x05#8, []⟩] := by decide

/-- The same, taken as REQUEST_ARRIVAL. -/
theorem test_request_arrival :
    (after .requestArrival (handing ⟨0x02#8, 0x05#8, []⟩)).dispatch.requests = [⟨0x02#8, 0x05#8, []⟩] := by decide

/-- A GET_STATUS that has ended a stall, with its report still owed. -/
def reportWaits : State :=
  { requesting 0x02#8 [] with notices.state := .stalled, link.reportOwed := true }

/-- 12, R174: executed before the report, the reply shows STALLED (13: notice state 0x01), and the stall is over after
it. -/
theorem test_getStatus_before_the_report :
    ((after .getStatus reportWaits).dispatch.replies.map fun f => f.payload[2]?) = [some 0x01#8] ∧
      (after .getStatus reportWaits).notices.state = .running := by decide

/-- 12, R174: any other step comes after the report. -/
theorem test_other_step_after_the_report : (after .arbiterChoice reportWaits).notices.state = .running := by decide

/-- 10, R137: TXD is high between frames; a frame begins with a low start bit, and its lead byte's bit 0 is high. -/
theorem test_txd_level :
    State.reset.txdLevel 0 = true ∧
      (List.range 3).map (State.txdLevel { State.reset with link.tx := some ⟨⟨0x81#8, 0x00#8, []⟩, .reply⟩ }) =
        [false, true, true] := by decide

/-- 10, "Finding frames again": 0x39 in place of a length is a length error. -/
theorem test_length_error :
    (after (.receiveByte 0x39#8 true rest11) { State.reset with link.rx := .length }).link.counters.lengthErrors = 1 := by
  decide

/-- 13, "Worked layout: a KEYS notice". -/
theorem test_keys_notice_frame :
    (OutstandingNotice.frame ⟨0x09#8, .keys [.press 0x0C#8 12 1034#16, .repeated 0x0C#8 12 1534#16 4, .lost 3], 1,
      .queued⟩).bytes =
      [0xC3#8, 0x0F#8, 0xA3#8, 0x09#8, 0x01#8, 0x0C#8, 0x0C#8, 0x04#8, 0x0A#8, 0x04#8, 0x0C#8, 0x0C#8, 0x05#8, 0xFE#8,
       0x04#8, 0x0F#8, 0x03#8, 0xE9#8] := by decide

/-- 13: C3 03 20 00 09 D4 confirms notice 9. -/
theorem test_ack_removes_notice :
    (after (.receiveByte 0xD4#8 true rest11)
      { outstanding .sent 1 with link.rx := .check 3 [0x20#8, 0x00#8, 0x09#8] }).notices.outstanding = [] := by
  decide

/-- 04, "Expiry and the completing admission at one instant", the expiry taken first. -/
theorem test_window_expiry_completes_chord :
    (after .chordWindowExpiry (collecting 3067#16)).queue = [.chord 0x40#8 0 3033#16] := by decide

/-- 04, the same, the admission taken first. -/
theorem test_admission_completes_larger_chord :
    (admitKey 6 (collecting 3057#16)).queue = [.chord 0x41#8 1 3057#16] := by decide

/-- 04, "A release while collecting". -/
theorem test_release_flushes_held_keys :
    (releaseKey 4 (collecting 3057#16)).queue =
      [.press 0x04#8 4 3017#16, .press 0x05#8 5 3033#16, .release 0x04#8 4 3057#16] := by decide

/-- 03, R37's example: with keys 17, 43 and 41 closed, key 19 is a ghost. -/
theorem test_ghost_corner :
    (((State.reset.setRecord 17 (downRecord 0#16)).setRecord 43 (downRecord 0#16)).setRecord 41
      (downRecord 0#16)).isGhost 19 = true := by decide

/-- 02, "Worked sequence: a bouncing key", the third closed sample at 1034. -/
theorem test_third_closed_sample_confirms :
    (debounceStep 12 (State.setRecord { State.reset with scan.panelTime := 1034#16 } 12
      { upRecord with phase := .making, contact := true, count := 2 })).queue = [.press 0x0C#8 12 1034#16] := by decide

/-- 07, "Worked sequence: a turn with an illegal transition", the tick 5003. -/
theorem test_detent :
    (after (.encoderSample .e0 0#2)
      { State.reset with encoders.e0 := { State.reset.encoders.e0 with sampleDue := true, quad := 2#2, acc := 3 } }).encoders.e0.position
      = 1#16 := by decide

/-- R96: the first sample after reset awaits the first tick. -/
theorem test_no_sample_before_its_tick :
    (after (.encoderSample .e0 1#2) State.reset).notices.fault.e0Count = 0 ∧
      (after .millisecondTick State.reset).encoders.e0.sampleDue = true := by decide

/-- 07, the same, the tick 5005: 01 to 10 is a double change. -/
theorem test_double_change :
    (after (.encoderSample .e0 2#2)
      { State.reset with encoders.e0 := { State.reset.encoders.e0 with sampleDue := true, quad := 1#2, acc := 1 } }).notices.fault.e0Count
      = 1 := by decide

/-- 08, "Worked sequence: a blinking digit with a point": the pattern of position 2 at 6002. -/
theorem test_letter_with_point :
    (after .slotStart
      { State.reset with
        scan.slotIndex := 2
        display.buffer := State.reset.display.buffer.set 2 ⟨.glyph .a 0x0A, true, true, false⟩ }).lines
      = { position := 0xFB#8, segment := 0x4077#16, lit := 8, swept := 0xFF#8 } := by decide

/-- 09, "Worked sequence: sleep, then a key": the sweep at 4060 that reads K3 low. -/
theorem test_sweep_wakes :
    (after (.wakeSweep 0xF7#8 rest11) (sleeping 4020#16)).notices.wake = some .key := by decide

/-- R134: under N = 3 a sweep drives P0 to P2 low and no other line. -/
theorem test_sweep_drives_the_scanned_lines :
    (after (.wakeSweep 0xFF#8 rest11) { sleeping 4020#16 with scan.config.positions := 3 }).lines =
      { position := 0xFF#8, segment := 0x0000#16, lit := 0, swept := 0xF8#8 } := by decide

/-- 01, R5's example: keys 17 and 22, both MAKING with count 2, read closed; three keys are down already and L is 4. -/
def lastPlace : State :=
  { State.reset with
    scan.slotIndex := 2
    scan.slotRunning := true
    keys.table :=
      let making : KeyRecord := { upRecord with phase := .making, contact := true, count := 2 }
      ((((State.reset.keys.table.set 0 (downRecord 0#16)).set 9 (downRecord 0#16)).set 34 (downRecord 0#16)).set 17
        making).set 22 making
    keys.downSet := [0, 9, 34] }

/-- 01, R5's example: key 17 takes the last place and key 22 is blocked with reason ROLLOVER. -/
theorem test_keys_are_examined_in_order :
    (after (.slotEnd 0xBD#8) lastPlace).keys.downSet = [0, 9, 34, 17] ∧
      ((after (.slotEnd 0xBD#8) lastPlace).record 22).blockReason = some .rollover := by decide

/-- The part right after a RESTART in the slot of position 2, at the instant of that slot's key sample. -/
def restartedInSlot : State := { State.reset with scan.cutSlot := some 2, notices.ready := some .soft }

/-- R164, R20: the sample is taken against open flags and reset debounce states, so key 17, read closed, is MAKING with
count 1. -/
theorem test_key_sample_after_restart :
    ((after (.slotEnd 0xFD#8) restartedInSlot).record 17).phase = .making ∧
      ((after (.slotEnd 0xFD#8) restartedInSlot).record 17).count = 1 ∧
      (after (.slotEnd 0xFD#8) restartedInSlot).scan = resetScan := by decide

/-! ### Part 2: witnesses for the statements' hypotheses -/

theorem witness_StepRunsTheFrontCommand :
    ({ State.reset with pending := [.millisecondTick, .slotStart] } : State).pending = .millisecondTick :: [.slotStart] ∧
      State.reset.pending = [] := by decide

theorem witness_HardwareResetLeavesTheResetValues : ReadyCause.pin = .power ∨ ReadyCause.pin = .pin := by decide

theorem witness_NrstHeldLowStopsThePart :
    ({ State.reset with pins.nrst := false } : State).pins.nrst = false ∧
      (∀ cause spd pins, Instr.slotStart ≠ .hardwareReset cause spd pins) ∧ Instr.slotStart ≠ .nrstHeldLow := by
  refine ⟨rfl, ?_, ?_⟩
  · intro cause spd pins h; cases h
  · intro h; cases h

theorem witness_TickAdvancesPanelTime :
    ({ State.reset with scan.panelTime := 65535#16 } : State).live := by decide

theorem witness_TimerIsDueFromItsExpiryTick :
    (1 ≤ 1 ∧ 1 ≤ 5000 ∧ 0 < 32768) ∧ (1 ≤ 5000 ∧ 5000 ≤ 5000 ∧ 32767 < 32768) := by decide

theorem witness_SlotStartDrivesTheComposedPattern :
    (State.reset.live ∧ State.reset.power.state ≠ .asleep ∧ State.reset.scan.slotRunning = false) ∧
      (sleeping 0#16).live ∧ ((sleeping 0#16).power.state = .asleep ∨ (sleeping 0#16).scan.slotRunning = true) := by decide

/-- A slot of position 7 in progress, key scanning on or off, with or without a pending configuration, and key 0 UP or
DOWN. -/
def lastSlot (scanning : Bool) (waiting : Option PendingScan) (down : Bool) : State :=
  { State.reset with
    scan.config.keyScanning := scanning
    scan.slotIndex := 7
    scan.slotRunning := true
    scan.pendingScan := waiting
    keys.table := if down then State.reset.keys.table.set 0 (downRecord 0#16) else State.reset.keys.table }

/-- A SET_SCAN for one position. -/
def onePosition : PendingScan :=
  ⟨{ positions := 1, slotUnits := 8, dp := 1, dr := 1, limit := 2, ghostFilter := false, keyScanning := false }, 0x05#8⟩

theorem witness_SlotEndTakesTheSample :
    (∀ scanning : Bool, (lastSlot scanning none true).live ∧
      (lastSlot scanning none true).power.state ≠ .asleep ∧ (lastSlot scanning none true).scan.slotRunning = true ∧
      ((lastSlot scanning none true).scan.slotIndex.val + 1 = (lastSlot scanning none true).scan.config.positions →
        (lastSlot scanning none true).scan.pendingScan = none) ∧
      (lastSlot scanning none true).scan.config.keyScanning = scanning) ∧
      (restartedInSlot.live ∧ restartedInSlot.power.state ≠ .asleep ∧ restartedInSlot.scan.slotRunning = false ∧
        restartedInSlot.scan.cutSlot = some 2) ∧
      State.reset.live ∧
        (State.reset.power.state = .asleep ∨ State.reset.scan.slotRunning = false ∧ State.reset.scan.cutSlot = none) := by
  decide

theorem witness_FrameBoundarySettlesSetScan :
    (∀ down : Bool, (lastSlot false (some onePosition) down).live ∧
      (lastSlot false (some onePosition) down).power.state ≠ .asleep ∧
      (lastSlot false (some onePosition) down).scan.slotRunning = true ∧
      (lastSlot false (some onePosition) down).scan.slotIndex.val + 1 =
        (lastSlot false (some onePosition) down).scan.config.positions ∧
      (lastSlot false (some onePosition) down).scan.pendingScan = some onePosition ∧
      (lastSlot false (some onePosition) down).scan.config.keyScanning = false) ∧
      (∀ k : KeyIndex, ((lastSlot false (some onePosition) false).record k).phase = .up) ∧
      ((lastSlot false (some onePosition) true).record 0).phase ≠ .up := by decide

/-- Key 9 in a given state, contact and count, with Dp and Dr at a given value. -/
def keyNine (dp : Nat) (phase : KeyPhase) (contact : Bool) (count : Nat) : State :=
  State.setRecord { State.reset with scan.config.dp := dp, scan.config.dr := dp } 9
    { upRecord with phase := phase, contact := contact, count := count }

theorem witness_DebounceStepOfAnEnabledUpKey :
    (∀ contact : Bool, ((keyNine 3 .up contact 0).mapEntry 9).enabled = true ∧
      ((keyNine 3 .up contact 0).record 9).phase = .up ∧ ((keyNine 3 .up contact 0).record 9).contact = contact ∧
      (keyNine 3 .up contact 0).scan.config.dp ≠ 1) ∧
      ((keyNine 1 .up true 0).mapEntry 9).enabled = true ∧ ((keyNine 1 .up true 0).record 9).phase = .up ∧
      ((keyNine 1 .up true 0).record 9).contact = true ∧ (keyNine 1 .up true 0).scan.config.dp = 1 := by decide

theorem witness_DebounceStepTable :
    ((State.mapEntry { State.reset with keys.map := State.reset.keys.map.set 9 { State.reset.keys.map[9] with enabled := false } } 9).enabled
      = false ∧ (State.reset.record 9).phase ≠ .blocked) ∧
      ((keyNine 3 .blocked false 2).record 9).phase = .blocked ∧
      (((keyNine 3 .making true 2).mapEntry 9).enabled = true ∧ ((keyNine 3 .making true 2).record 9).phase = .making) ∧
      (((keyNine 3 .down false 0).mapEntry 9).enabled = true ∧ ((keyNine 3 .down false 0).record 9).phase = .down) ∧
      ((keyNine 3 .breaking false 2).mapEntry 9).enabled = true ∧
      ((keyNine 3 .breaking false 2).record 9).phase = .breaking := by decide

/-- Keys 17, 43 and 41 closed: key 19 completes a rectangle. -/
def rectangle : State :=
  ((State.reset.setRecord 17 (downRecord 0#16)).setRecord 43 (downRecord 0#16)).setRecord 41 (downRecord 0#16)

/-- Four keys in the down-set, the limit L after reset. -/
def fullDownSet : State := { State.reset with keys.downSet := [0, 1, 2, 3] }

theorem witness_PressAdmissionOutcomes :
    (rectangle.scan.config.ghostFilter = true ∧ ∃ (p' : Position) (l' : ReturnLine), p' ≠ keyPosition 19 ∧
      l' ≠ keyLine 19 ∧ (rectangle.record (keyAt (keyPosition 19) l')).contact = true ∧
      (rectangle.record (keyAt p' (keyLine 19))).contact = true ∧ (rectangle.record (keyAt p' l')).contact = true) ∧
      (¬ { fullDownSet with scan.config.ghostFilter := false }.scan.config.ghostFilter = true ∧
        fullDownSet.scan.config.limit ≤ fullDownSet.keys.downSet.length) ∧
      (¬ { collecting 3057#16 with scan.config.ghostFilter := false }.scan.config.ghostFilter = true ∧
        (collecting 3057#16).keys.downSet.length < (collecting 3057#16).scan.config.limit ∧
        (collecting 3057#16).chords.slots[1] = some ⟨0x41#8, [4, 5, 6]⟩ ∧ (6 : KeyIndex) ∈ [4, 5, 6] ∧
        (∀ i : SlotIndex, ∀ c ∈ (collecting 3057#16).chords.slots[i], (7 : KeyIndex) ∉ c.members) ∧
        (collecting 3057#16).chords.held ≠ []) ∧
      (State.reset.keys.downSet.length < State.reset.scan.config.limit ∧
        (∀ i : SlotIndex, ∀ c ∈ State.reset.chords.slots[i], (7 : KeyIndex) ∉ c.members) ∧
        State.reset.chords.held = []) := by
  refine ⟨⟨rfl, 5, 1, ?_⟩, ?_, ?_, ?_⟩ <;> decide

/-- The chord sequence's state is sound. -/
theorem collecting_chordsSound (now : Time) : ChordsSound (collecting now) where
  members := by
    have h : ∀ i : SlotIndex, ∀ c ∈ (collecting 0#16).chords.slots[i],
        2 ≤ c.members.length ∧ c.members.length ≤ 4 ∧ c.members.Nodup := by decide
    exact h
  distinct := by
    have h : ∀ i j : SlotIndex, i ≠ j → ∀ c ∈ (collecting 0#16).chords.slots[i],
        ∀ d ∈ (collecting 0#16).chords.slots[j], ¬ (∀ k, k ∈ c.members ↔ k ∈ d.members) := by decide
    exact fun i j hij c d hc hd => h i j hij c hc d hd
  order := (by decide : (collecting 0#16).heldKeys.Sublist [4, 5])
  atMost := (by decide : 2 ≤ 3)
  window := (by decide : (collecting 0#16).chords.window.isSome = true ↔ (collecting 0#16).chords.held ≠ [])
  press := (by decide : ∀ h ∈ (collecting 0#16).chords.held,
    ((collecting 0#16).record h.key).chorded = false ∧ ((collecting 0#16).record h.key).admission = some h.time)
  within := fun _ => ⟨0, ⟨0x40#8, [4, 5]⟩, rfl, (by decide : ∀ h ∈ (collecting 0#16).chords.held, h.key ∈ [4, 5])⟩

/-- Only slot 1, {4, 5, 6}, is occupied. -/
def collectingLarger (now : Time) : State :=
  { collecting now with chords.slots := (collecting now).chords.slots.set 0 none }

/-- The held keys 4 and 5 equal slot 0's set; with slot 0 emptied they equal no set. -/
theorem witness_ChordWindowExpirySettlesTheHeldList :
    ((collecting 3067#16).live ∧ ChordsSound (collecting 3067#16) ∧
      timerDue (collecting 3067#16).chords.window (collecting 3067#16).scan.panelTime = true ∧
      (collecting 3067#16).chords.slots[0] = some ⟨0x40#8, [4, 5]⟩ ∧
      (∀ k : KeyIndex, k ∈ [4, 5] ↔ k ∈ (collecting 3067#16).heldKeys) ∧
      (collecting 3067#16).chords.held = [⟨4, 3017#16⟩] ++ [⟨5, 3033#16⟩]) ∧
      (∀ i : SlotIndex, ∀ c ∈ (collectingLarger 3067#16).chords.slots[i],
        ¬ (∀ k, k ∈ c.members ↔ k ∈ (collectingLarger 3067#16).heldKeys)) ∧
      timerDue (collecting 3066#16).chords.window (collecting 3066#16).scan.panelTime = false :=
  ⟨⟨⟨rfl, rfl⟩, collecting_chordsSound _, by decide, rfl, by decide, rfl⟩, by decide, by decide⟩

/-- The second state of the witness above is sound too. -/
theorem collectingLarger_chordsSound (now : Time) : ChordsSound (collectingLarger now) where
  members := by
    have h : ∀ i : SlotIndex, ∀ c ∈ (collectingLarger 0#16).chords.slots[i],
        2 ≤ c.members.length ∧ c.members.length ≤ 4 ∧ c.members.Nodup := by decide
    exact h
  distinct := by
    have h : ∀ i j : SlotIndex, i ≠ j → ∀ c ∈ (collectingLarger 0#16).chords.slots[i],
        ∀ d ∈ (collectingLarger 0#16).chords.slots[j], ¬ (∀ k, k ∈ c.members ↔ k ∈ d.members) := by decide
    exact fun i j hij c d hc hd => h i j hij c hc d hd
  order := (collecting_chordsSound now).order
  atMost := (collecting_chordsSound now).atMost
  window := (collecting_chordsSound now).window
  press := (collecting_chordsSound now).press
  within := fun _ => ⟨1, ⟨0x41#8, [4, 5, 6]⟩, rfl, (by decide : ∀ h ∈ (collecting 0#16).chords.held, h.key ∈ [4, 5, 6])⟩

/-- Key 6 completes slot 1; key 5, with 4 held alone, fits slot 1 and equals slot 0 with it; key 7 fits none. -/
theorem witness_MemberAdmissionIsDecidedByTheTable :
    ChordsSound (collecting 3057#16) ∧
      ((collecting 3057#16).chords.slots[1] = some ⟨0x41#8, [4, 5, 6]⟩ ∧
        (∀ x ∈ (collecting 3057#16).heldKeys ++ [6], x ∈ [4, 5, 6]) ∧
        (∀ x ∈ [4, 5, 6], x ∈ (collecting 3057#16).heldKeys ++ [6]) ∧
        ∀ j : SlotIndex, ∀ d ∈ (collecting 3057#16).chords.slots[j],
          (∀ x ∈ (collecting 3057#16).heldKeys ++ [6], x ∈ d.members) →
            ∀ x ∈ d.members, x ∈ (collecting 3057#16).heldKeys ++ [6]) ∧
      (State.reset.heldKeys = [] ∧ (∀ x ∈ State.reset.heldKeys ++ [4], x ∈ [4, 5]) ∧
        ¬ ∀ x ∈ [4, 5], x ∈ State.reset.heldKeys ++ [4]) ∧
      ∀ i : SlotIndex, ∀ c ∈ (collecting 3057#16).chords.slots[i],
        ¬ ∀ x ∈ (collecting 3057#16).heldKeys ++ [7], x ∈ c.members :=
  ⟨collecting_chordsSound _, ⟨rfl, by decide, by decide, by decide⟩, ⟨rfl, by decide, by decide⟩, by decide⟩

/-- Key 9 is repeat owner with its timer due, its REPEAT record in the queue or not. -/
def repeating (queue : List QueueEntry) : State :=
  { State.reset with
    scan.panelTime := 500#16
    repeatHold.owner := some ⟨9, .delay⟩
    repeatHold.timer := some 500#16
    repeatHold.holdTimers := State.reset.repeatHold.holdTimers.set 9 (some 500#16)
    queue := queue }

theorem witness_RepeatAndHoldExpiriesHandOnTheirEvents :
    (∀ q ∈ [[], [.lost 1, .repeated 0x09#8 9 400#16 255]], (repeating q).live ∧
      (repeating q).repeatHold.owner = some ⟨9, .delay⟩ ∧
      timerDue (repeating q).repeatHold.timer (repeating q).scan.panelTime = true ∧
      timerDue (repeating q).repeatHold.holdTimers[(9 : KeyIndex)] (repeating q).scan.panelTime = true) ∧
      ((repeating [.lost 1, .repeated 0x09#8 9 400#16 255]).queue = [.lost 1] ++ .repeated 0x09#8 9 400#16 255 :: [] ∧
        ∀ e ∈ [QueueEntry.lost 1], e.repeatKey? ≠ some 9) ∧
      (∀ e ∈ (repeating []).queue, e.repeatKey? ≠ some 9) ∧ State.reset.repeatHold.owner = none ∧
      timerDue State.reset.repeatHold.holdTimers[(9 : KeyIndex)] State.reset.scan.panelTime = false := by
  decide

theorem witness_AppendRuleRowByRow :
    ((List.replicate 14 (QueueEntry.press 0#8 0 0#16)).length ≤ 14) ∧
      ((List.replicate 14 (QueueEntry.press 0#8 0 0#16)) ++ [QueueEntry.lost 255]).length = 15 ∧
      ((List.replicate 15 (QueueEntry.press 0#8 0 0#16)) ++ [QueueEntry.lost 1]).length = 16 ∧
      (QueueEntry.press 0#8 0 0#16).isLost = false := by decide

/-- A queue of a PRESS and a marker is sound. -/
theorem pressAndLost_sound : QueueSound [.press 0#8 0 0#16, .lost 255] where
  capacity := by decide
  sixteenth := by decide
  markersApart := by decide
  oneRecord := by decide
  counts := by decide

theorem witness_DrainTakesTheLongestRunWithin37Bytes :
    (∃ e rest, (drainQueue 37 (List.replicate 8 (QueueEntry.press 0#8 0 0#16))).2 = e :: rest) ∧
      [QueueEntry.press 0#8 0 0#16, .lost 255] ≠ [] ∧ QueueSound [.press 0#8 0 0#16, .lost 255] :=
  ⟨⟨_, _, rfl⟩, by decide, pressAndLost_sound⟩

/-- Channel E0 enabled with its tick's sample due, at a given pair, accumulator and delta. -/
def turning (quad : QuadPair) (acc delta : Int) : State :=
  { State.reset with
    encoders.e0 := { State.reset.encoders.e0 with quad := quad, acc := acc, delta := delta, sampleDue := true } }

theorem witness_EncoderSampleCountsStepsAndDetents :
    ((turning 2#2 3 127).live ∧ ((turning 2#2 3 127).channel .e0).enabled = true ∧
      ((turning 2#2 3 127).channel .e0).sampleDue = true ∧
      (turning 2#2 3 127).power.state ≠ .asleep) ∧
      (2#2 = ((turning 2#2 3 127).channel .e0).quad) ∧ (1#2 = ~~~((turning 2#2 3 127).channel .e0).quad) ∧
      (((turning 2#2 3 127).channel .e0).quad, 0#2) ∈ [(0#2, 1#2), (1#2, 3#2), (3#2, 2#2), (2#2, 0#2)] ∧
      ((3#2, ((turning 2#2 (-3) (-127)).channel .e0).quad) ∈ [(0#2, 1#2), (1#2, 3#2), (3#2, 2#2), (2#2, 0#2)]) ∧
      (State.reset.channel .e1).sampleDue = false ∧
      (State.channel { State.reset with encoders.e1.enabled := false } .e1).enabled = false := by decide

/-- Asleep with both channels enabled and watched, E0's timer due or not. -/
def sleepingEncoder (due : Bool) : State :=
  { sleeping 4000#16 with
    encoders.e0 := { State.reset.encoders.e0 with enabled := true, delta := 1, timer := if due then some 4000#16 else none }
    encoders.e1 := { State.reset.encoders.e1 with enabled := true } }

theorem witness_EncoderEventsWakeTheSleepingPart :
    (timerDue ((sleepingEncoder true).channel .e0).timer (sleepingEncoder true).scan.panelTime = true ∧
      timerDue ((sleepingEncoder false).channel .e0).timer (sleepingEncoder false).scan.panelTime = false) ∧
      ((sleepingEncoder true).live ∧ (sleepingEncoder true).power.state = .asleep ∧
        (sleepingEncoder true).encoders.e1.enabled = true ∧ (sleepingEncoder true).power.mask.e1 = true ∧
        (⟨3#2, 2#2⟩ : EncoderPins).e1 ≠ (sleepingEncoder true).encoders.e1.quad) ∧
      State.reset.power.state ≠ .asleep := by decide

theorem witness_BlinkAndTestTimersExpire :
    (timerDue State.reset.display.blinkTimer 500#16 = true ∧ timerDue State.reset.display.blinkTimer 499#16 = false) ∧
      timerDue (some 5000#16) 5000#16 = true ∧ timerDue State.reset.display.testTimer 0#16 = false := by decide

theorem witness_WakeSweepWakesOnAClosedKey :
    ((sleeping 4020#16).live ∧ (sleeping 4020#16).power.state = .asleep ∧
      (sleeping 4020#16).scan.config.keyScanning = true ∧
      timerDue (sleeping 4020#16).power.sweep (sleeping 4020#16).scan.panelTime = true ∧
      (sleeping 4020#16).power.mask.keys = true) ∧ 0xFE#8 ≠ 0xFF#8 ∧
      ¬ timerDue (sleeping 4019#16).power.sweep (sleeping 4019#16).scan.panelTime = true := by decide

/-- The receiver in a given state, no wait for the line. -/
def receiving (rx : RxState) : State :=
  { State.reset with link.lineHeld := false, link.rx := rx }

theorem witness_ReceiverTakesAGoodByte :
    (∀ rx ∈ [RxState.hunt, .length, .body 2 [0x02#8], .check 2 [0x02#8, 0x05#8], .check 2 [0x00#8, 0xFF#8]],
      (receiving rx).live ∧ (receiving rx).link.lineHeld = false ∧ (receiving rx).link.rx = rx) ∧
      (2 ≤ (0x02#8).toNat ∧ (0x28#8).toNat ≤ 40 ∧ (0x01#8).toNat < 2 ∧ 40 < (0x29#8).toNat) ∧
      (BitVec.ofNat 8 2 + [0x02#8, 0x05#8].foldr (· + ·) 0#8 + 0xF7#8 = 0x00#8) ∧
      (BitVec.ofNat 8 2 + [0x02#8, 0x05#8].foldr (· + ·) 0#8 + 0xF8#8 ≠ 0x00#8) ∧
      (State.reset.live ∧ State.reset.link.lineHeld = true) := by decide

theorem witness_DamagedFramesAreAbortedAndCounted :
    (State.reset.live ∧ State.reset.link.lineHeld = true ∧ true = true) ∧
      (receiving .length).link.lineHeld = false ∧
      timerDue ({ receiving .length with link.gapTimer := some 0#16 } : State).link.gapTimer
        (receiving .length).scan.panelTime = true ∧
      timerDue State.reset.link.gapTimer State.reset.scan.panelTime = false := by decide

theorem witness_ReceivingAFrameHandsItOn :
    (List.replicate 38 0xC3#8).length ≤ 38 ∧ (receiving .hunt).live ∧
      (receiving .hunt).power.state = .awake ∧ (receiving .hunt).link.lineHeld = false ∧
      (receiving .hunt).link.rx = .hunt ∧ (receiving .hunt).link.gapTimer = none := by decide

/-- Two notices outstanding, with sequence numbers 8 and 9. -/
def acknowledging : State :=
  { handing ⟨0x20#8, 0x00#8, [0x09#8]⟩ with
    notices.outstanding := [⟨0x08#8, .wake .key, 4, .sent⟩, ⟨0x09#8, .ready .power, 1, .queued⟩] }

theorem witness_AckRemovesTheNamedNoticeAndAllOlder :
    ((⟨0x20#8, 0x00#8, [0x09#8]⟩ : Frame).kind = 0x20#8 ∧
      acknowledging.notices.outstanding =
        [⟨0x08#8, .wake .key, 4, .sent⟩] ++ ⟨0x09#8, .ready .power, 1, .queued⟩ :: [] ∧
      ∀ o ∈ [(⟨0x08#8, .wake .key, 4, .sent⟩ : OutstandingNotice)], o.seq ≠ 0x09#8) ∧
      (∀ p ∈ [[], [0x0A#8], [0x08#8, 0x09#8]], ∀ n ∈ acknowledging.notices.outstanding, p ≠ [n.seq]) ∧
      (acknowledging.live ∧ acknowledging.link.rx = .check 3 (0x20#8 :: 0x00#8 :: [0x09#8])) ∧
      State.reset.live ∧
      (∀ len kind tag payload, State.reset.link.rx = .check len (kind :: tag :: payload) → kind ≠ 0x20#8) :=
  ⟨by decide, by decide, by decide, by decide, fun _ _ _ _ h => nomatch h⟩

/-- The two lists filled to given lengths, SCAN_WAIT or IDLE, with one frame held but for its check byte. -/
def arriving (kind : Byte) (requests replies : Nat) (phase : DispatcherPhase) : State :=
  { handing ⟨kind, 0x05#8, []⟩ with
    dispatch := { requests := List.replicate requests ⟨0x01#8, 0x00#8, []⟩,
                  replies := List.replicate replies ⟨0x81#8, 0x00#8, []⟩, phase := phase } }

theorem witness_ArrivalsAreQueuedAnsweredOrDropped :
    (1 ≤ (0x01#8).toNat ∧ (0x15#8).toNat ≤ 21 ∧ (arriving 0x01#8 3 4 .idle).dispatch.requests.length < 4) ∧
      (4 ≤ (arriving 0x15#8 4 3 .idle).dispatch.requests.length ∧
        repliesHeld (arriving 0x15#8 4 3 .idle).dispatch < 4) ∧
      (4 ≤ (arriving 0x15#8 4 3 .scanWait).dispatch.requests.length ∧
        4 ≤ repliesHeld (arriving 0x15#8 4 3 .scanWait).dispatch) ∧
      (¬ (1 ≤ (0x16#8).toNat ∧ (0x16#8).toNat ≤ 21) ∧ 0x16#8 ≠ 0x20#8) ∧
      ¬ (1 ≤ (0x00#8).toNat ∧ (0x00#8).toNat ≤ 21) ∧
      (∀ kind ∈ [0x01#8, 0x15#8, 0x16#8], (arriving kind 4 3 .idle).live ∧
        (arriving kind 4 3 .idle).link.rx = .check 2 (kind :: 0x05#8 :: [])) ∧
      (∀ len kind tag payload, State.reset.link.rx = .check len (kind :: tag :: payload) → kind = 0x20#8) ∧
      (reportWaits.pins.nrst = true ∧ reportWaits.link.reportOwed = true ∧ Instr.slotStart.requestKind = none ∧
        (∀ cause spd pins, Instr.slotStart ≠ .hardwareReset cause spd pins) ∧ Instr.slotStart ≠ .nrstHeldLow ∧
        Instr.getStatus.requestKind = some 0x02#8) := by
  refine ⟨by decide, by decide, by decide, by decide, by decide, by decide, (fun _ _ _ _ h => nomatch h), rfl, rfl, rfl, ?_, ?_,
    rfl⟩
  · intro cause spd pins h; cases h
  · intro h; cases h

/-- Replies to send, a consecutive-reply count, and a notice in a given state of transmission. -/
def choosing (replies replyRun : Nat) (t : TransmitState) : State :=
  { outstanding t 1 with
    dispatch.replies := List.replicate replies ⟨0x81#8, 0x00#8, []⟩
    link.replyRun := replyRun }

theorem witness_ArbiterChoosesByItsTable :
    ((choosing 1 1 .queued).live ∧ (choosing 1 1 .queued).link.tx = none ∧
      (choosing 1 1 .queued).dispatch.replies = ⟨0x81#8, 0x00#8, []⟩ :: [] ∧
      ¬ 2 ≤ (choosing 1 1 .queued).link.replyRun) ∧
      (2 ≤ (choosing 1 2 .resend).link.replyRun ∧ (choosing 1 2 .resend).notices.state = .running ∧
        (choosing 1 2 .resend).notices.outstanding = [] ++ ⟨0x09#8, .ready .power, 1, .resend⟩ :: [] ∧
        TransmitState.resend ≠ .sent) ∧
      ((choosing 0 0 .sent).dispatch.replies = [] ∧
        ¬ ∃ n ∈ (choosing 0 0 .sent).notices.outstanding, n.transmit ≠ .sent) ∧
      ({ State.reset with link.tx := some ⟨⟨0x81#8, 0x00#8, []⟩, .reply⟩ } : State).link.tx =
        some ⟨⟨0x81#8, 0x00#8, []⟩, .reply⟩ := by decide

/-- A frame on TXD with the dispatcher and the power state as given. -/
def sending (f : Frame) (source : TxSource) (phase : DispatcherPhase) (power : PowerState) : State :=
  { State.reset with
    link.tx := some ⟨f, source⟩
    dispatch.phase := phase
    power.state := power
    notices.ready := none }

theorem witness_EndOfTransmissionOfNoticesAndPlainReplies :
    ((sending ⟨0xA0#8, 0x09#8, [0x00#8]⟩ .notice .idle .awake).live ∧
      (sending ⟨0xA0#8, 0x09#8, [0x00#8]⟩ .notice .idle .awake).link.tx =
        some ⟨⟨0xA0#8, 0x09#8, [0x00#8]⟩, .notice⟩) ∧
      ((sending ⟨0x83#8, 0x05#8, [0x00#8]⟩ .reply .idle .awake).link.tx = some ⟨⟨0x83#8, 0x05#8, [0x00#8]⟩, .reply⟩ ∧
        (sending ⟨0x83#8, 0x05#8, [0x00#8]⟩ .reply .idle .awake).dispatch.phase ≠ .restartWait) ∧
      State.reset.link.tx = none := by decide

theorem witness_RestartTakesEffectAtTheEndOfItsReply :
    (sending ⟨0x83#8, 0x05#8, [0x00#8]⟩ .reply .restartWait .awake).live ∧
      (sending ⟨0x83#8, 0x05#8, [0x00#8]⟩ .reply .restartWait .awake).link.tx =
        some ⟨⟨0x83#8, 0x05#8, [0x00#8]⟩, .reply⟩ ∧
      (sending ⟨0x83#8, 0x05#8, [0x00#8]⟩ .reply .restartWait .awake).dispatch.phase = .restartWait := by decide

/-- RESTART in the slot of position 2 leaves that slot's key sample to follow; after another tick it cannot (R164). -/
theorem test_restart_leaves_the_key_sample :
    let slot : State :=
      { sending ⟨0x83#8, 0x05#8, [0x00#8]⟩ .reply .restartWait .awake with scan.slotIndex := 2, scan.slotRunning := true }
    (after (.endOfTransmission rest11) slot).scan = { resetScan with cutSlot := some 2 } ∧
      (after .millisecondTick restartedInSlot).scan.cutSlot = none := by decide

/-- The end of the SLEEP reply. -/
def falling : State := sending ⟨0x93#8, 0x05#8, [0x00#8]⟩ .reply .sleepWait .sleepPending

theorem witness_SleepEntryIsCheckedAgain :
    (falling.live ∧ falling.link.tx = some ⟨⟨0x93#8, 0x05#8, [0x00#8]⟩, .reply⟩ ∧
      falling.dispatch.phase = .sleepWait) ∧
      falling.sleepObstacle = none ∧ State.sleepObstacle { falling with power.linkSeen := true } = some .link ∧
      State.sleepObstacle { falling with notices.fault.ghostCount := 1 } = some .key ∧
      State.sleepObstacle { falling with notices.fault.e1Count := 1 } = some .encoder := by decide

/-- One class pending below READY and WAKE, with room in the window. -/
def composing (queue : List QueueEntry) (ghosts : Nat) (delta : Int) : State :=
  { State.reset with
    notices.ready := none
    queue := queue
    notices.fault.ghostCount := ghosts
    encoders.e0 := { State.reset.encoders.e0 with enabled := true, delta := delta } }

theorem witness_CompositionTakesTheHighestEnabledPendingClass :
    (State.reset.live ∧ State.reset.mayCompose = true ∧ State.reset.notices.ready = some .power) ∧
      ({ composing [] 0 0 with notices.wake := some .key } : State).notices.wake = some .key ∧
      (composing [.lost 1] 1 1).dueClass = some .panelFault ∧ (composing [.lost 1] 0 1).dueClass = some .keys ∧
      (composing [] 0 1).dueClass = some .encoder ∧ (composing [] 0 0).dueClass = none ∧
      (outstanding .queued 1).mayCompose = false := by decide

theorem witness_AcknowledgementTimeoutRetriesOrStalls :
    (∀ tries : Nat, (outstanding .sent tries).live ∧
      timerDue ({ outstanding .sent tries with scan.panelTime := 100#16 } : State).notices.timer 100#16 = true) ∧
      (∀ n ∈ (outstanding .sent 3).notices.outstanding, n.transmit = .sent → n.tries < 4) ∧
      (∃ n ∈ (outstanding .sent 4).notices.outstanding, n.transmit = .sent ∧ 4 ≤ n.tries) ∧
      timerDue (outstanding .sent 1).notices.timer 99#16 = false :=
  ⟨fun _ => ⟨⟨rfl, rfl⟩, rfl⟩, by decide, by decide, by decide⟩

/-! `requesting_serves` shows the dispatcher at a request of any kind and payload; the theorems below show payloads that meet
each clause of the request statements, at the ends of their ranges. -/

/-- The dispatcher at a request with the reply list one short of full and another request behind it. -/
theorem witness_State_serves :
    State.serves 0x02#8 ⟨0x02#8, 0x05#8, []⟩ [⟨0x01#8, 0x06#8, []⟩]
      { State.reset with
        dispatch := { requests := [⟨0x02#8, 0x05#8, []⟩, ⟨0x01#8, 0x06#8, []⟩]
                      replies := List.replicate 3 ⟨0x81#8, 0x00#8, []⟩, phase := .waitReplySpace } } :=
  ⟨⟨rfl, rfl⟩, rfl, .inr rfl, by decide, rfl, rfl⟩

theorem witness_IdentifyAnswersItsFixedValues :
    (requesting 0x01#8 []).serves 0x01#8 ⟨0x01#8, 0x05#8, []⟩ [] ∧ [0x00#8] ≠ [] :=
  ⟨requesting_serves _ _, by decide⟩

theorem witness_ReadRequestsReportAndChangeNothing :
    (requesting 0x12#8 []).serves 0x12#8 ⟨0x12#8, 0x05#8, []⟩ [] ∧ (requesting 0x12#8 []).display.testTimer = none ∧
      1 ≤ (5000#16 - (requesting 0x12#8 []).scan.panelTime).toNat ∧
      (5000#16 - (requesting 0x12#8 []).scan.panelTime).toNat ≤ 5000 :=
  ⟨requesting_serves _ _, rfl, by decide, by decide⟩

theorem witness_TableReadsReportAndChangeNothing :
    (requesting 0x06#8 [0x38#8, 0x08#8]).serves 0x06#8 ⟨0x06#8, 0x05#8, [0x38#8, 0x08#8]⟩ [] ∧
      ((0x38#8).toNat ≤ 63 ∧ (0x08#8).toNat ≤ 8 ∧ (0x38#8).toNat + (0x08#8).toNat ≤ 64) ∧
      64 < (0x39#8).toNat + (0x08#8).toNat ∧ (collecting 0#16).chords.slots[0] = some ⟨0x40#8, [4, 5]⟩ ∧
      State.reset.chords.slots[7] = none ∧ 7 < (0x08#8).toNat ∧ ([] : List Byte).length ≠ 1 :=
  ⟨requesting_serves _ _, by decide, by decide, rfl, rfl, by decide, by decide⟩

theorem witness_ClearingReadsReportBeforeTheyClear :
    (requesting 0x0D#8 [0x01#8]).serves 0x0D#8 ⟨0x0D#8, 0x05#8, [0x01#8]⟩ [] ∧ 1 < (0x02#8).toNat ∧
      ([] : List Byte).length ≠ 1 :=
  ⟨requesting_serves _ _, by decide, by decide⟩

theorem witness_RestartPostsItsReplyAndWaits :
    ((requesting 0x03#8 []).serves 0x03#8 ⟨0x03#8, 0x05#8, []⟩ [] ∧ [0x00#8] ≠ []) ∧
      Instr.identify.requestKind = some 0x01#8 ∧ (Instr.setEncoders rest11).requestKind = some 0x0C#8 ∧
      (∀ phase ∈ [DispatcherPhase.scanWait, .restartWait, .sleepWait],
        State.live { requesting 0x01#8 [] with dispatch.phase := phase } ∧
          State.canTake { requesting 0x01#8 [] with dispatch.phase := phase } = false) ∧
      (sleeping 0#16).live ∧ (sleeping 0#16).power.state ≠ .awake ∧
      4 ≤ (arriving 0x01#8 4 4 .idle).dispatch.replies.length ∧
      (∀ r rest, (requesting 0x01#8 []).dispatch.requests = r :: rest → r.kind ≠ 0x0C#8) := by
  refine ⟨⟨requesting_serves _ _, by decide⟩, rfl, rfl, by decide, by decide, by decide, by decide, ?_⟩
  intro r rest h
  injection h with h _
  subst h
  decide

theorem witness_SetScanBecomesPending :
    (requesting 0x04#8 [0x08#8, 0x08#8, 0x0F#8, 0x0F#8, 0x08#8, 0x01#8, 0x01#8]).serves 0x04#8
        ⟨0x04#8, 0x05#8, [0x08#8, 0x08#8, 0x0F#8, 0x0F#8, 0x08#8, 0x01#8, 0x01#8]⟩ [] ∧
      ((0x08#8).toNat ≤ 8 ∧ (0x0F#8).toNat ≤ 15 ∧ (0x01#8).toNat ≤ 1) ∧ ¬ (0x09#8).toNat ≤ 8 ∧ ¬ 2 ≤ (0x01#8).toNat :=
  ⟨requesting_serves _ _, by decide, by decide, by decide⟩

/-- One entry for key 63 with every flag set, key 63 UP, and a key that is not. -/
theorem witness_SetKeymapWritesUpKeysOnly :
    (requesting 0x05#8 [0x3F#8, 0x0C#8, 0x0F#8]).serves 0x05#8 ⟨0x05#8, 0x05#8, [0x3F#8, 0x0C#8, 0x0F#8]⟩ [] ∧
      [(0x3F#8, 0x0C#8, 0x0F#8)].flatMap (fun e => [e.1, e.2.1, e.2.2]) = [0x3F#8, 0x0C#8, 0x0F#8] ∧
      ((0x3F#8).toNat ≤ 63 ∧ (0x0F#8).toNat ≤ 15 ∧ ¬ (0x40#8).toNat ≤ 63 ∧ ¬ (0x10#8).toNat ≤ 15) ∧
      (State.reset.record (Fin.ofNat 64 63)).phase = .up ∧
      ((collecting 0#16).record (Fin.ofNat 64 4)).phase ≠ .up ∧ 24 < (List.replicate 27 0#8).length :=
  ⟨requesting_serves _ _, by decide, by decide, by decide, by decide, by decide⟩

/-- Slot 7 with four members up to key 63; slot 2 with slot 0's own set, a conflict. -/
theorem witness_SetChordFlushesThenWritesItsSlot :
    (requesting 0x08#8 [0x07#8, 0x42#8, 0x04#8, 0x00#8, 0x01#8, 0x02#8, 0x3F#8]).serves 0x08#8
        ⟨0x08#8, 0x05#8, [0x07#8, 0x42#8, 0x04#8, 0x00#8, 0x01#8, 0x02#8, 0x3F#8]⟩ [] ∧
      ((0x07#8).toNat ≤ 7 ∧ (0x04#8).toNat ≤ 4 ∧ [0x00#8, 0x01#8, 0x02#8, 0x3F#8].Nodup ∧
        ∀ b ∈ [0x00#8, 0x01#8, 0x02#8, 0x3F#8], b.toNat ≤ 63) ∧
      (¬ (0x08#8).toNat ≤ 7 ∧ ¬ [0x05#8, 0x05#8].Nodup) ∧
      ((0 : SlotIndex).val ≠ (0x02#8).toNat ∧ (collecting 0#16).chords.slots[0] = some ⟨0x40#8, [4, 5]⟩ ∧
        (∀ k, k ∈ [0x05#8, 0x04#8].map (fun b => Fin.ofNat 64 b.toNat) ↔ k ∈ [(4 : KeyIndex), 5]) ∧
        (collecting 0#16).chords.held ≠ []) :=
  ⟨requesting_serves _ _, by decide, by decide, by decide⟩

theorem witness_SetTimingSetsFourSettings :
    (requesting 0x0A#8 [0xC8#8, 0x32#8, 0x32#8, 0x19#8]).serves 0x0A#8
        ⟨0x0A#8, 0x05#8, [0xC8#8, 0x32#8, 0x32#8, 0x19#8]⟩ [] ∧
      ((0xC8#8).toNat ≤ 200 ∧ (0x32#8).toNat ≤ 50 ∧ (0x19#8).toNat ≤ 25) ∧ ¬ 10 ≤ (0x09#8).toNat :=
  ⟨requesting_serves _ _, by decide, by decide⟩

theorem witness_FlushKeysEmptiesTheQueueAndCounts :
    (requesting 0x0B#8 []).serves 0x0B#8 ⟨0x0B#8, 0x05#8, []⟩ [] ∧ [0x00#8] ≠ [] :=
  ⟨requesting_serves _ _, by decide⟩

theorem witness_SetEncodersConfiguresTheNamedChannel :
    (requesting 0x0C#8 [0x01#8, 0x01#8, 0x04#8, 0x32#8]).serves 0x0C#8
        ⟨0x0C#8, 0x05#8, [0x01#8, 0x01#8, 0x04#8, 0x32#8]⟩ [] ∧
      ((0x01#8).toNat ≤ 1 ∧ (0x04#8).toNat = 4 ∧ (0x32#8).toNat ≤ 50) ∧
      ¬ ((0x03#8).toNat = 1 ∨ (0x03#8).toNat = 2 ∨ (0x03#8).toNat = 4) :=
  ⟨requesting_serves _ _, by decide, by decide⟩

/-- 08's worked request: start 2, count 1, bank A, code 0x0A, point and blink; then payloads that each clause refuses. -/
theorem witness_DisplayWritesReplaceTheirRuns :
    (requesting 0x0E#8 [0x02#8, 0x01#8, 0x01#8, 0x03#8, 0x00#8, 0x0A#8]).serves 0x0E#8
        ⟨0x0E#8, 0x05#8, [0x02#8, 0x01#8, 0x01#8, 0x03#8, 0x00#8, 0x0A#8]⟩ [] ∧
      ((0x07#8).toNat ≤ 7 ∧ (0x07#8).toNat + 1 ≤ 8 ∧ 8 < (0x07#8).toNat + 2) ∧
      (∃ x ∈ [(0x01#8, 0x07#8, [0x00#8, 0x40#8])], x.1 = 0x01#8 ∧
        ∃ bank code : Byte, x.2.2 = [bank, code] ∧ (1 < bank.toNat ∨ 63 < code.toNat)) ∧
      (∃ x ∈ [(0x03#8, 0x00#8, ([] : List Byte))], 2 < x.1.toNat) ∧
      (∀ x ∈ [(0x02#8, 0x00#8, [0x12#8, 0x34#8]), (0x03#8, 0x00#8, ([] : List Byte))],
        x.2.2.length = if x.1 = 0x01#8 ∨ x.1 = 0x02#8 then 2 else 0) ∧
      (([] : List Byte).length < (0x01#8).toNat ∧ ∀ more ∈ [[], [0x03#8], [0x02#8], [0x02#8, 0x00#8, 0x12#8]],
        ∀ mode ∈ more.head?, more.length < if mode = 0x01#8 ∨ mode = 0x02#8 then 4 else 2) ∧
      (requesting 0x0F#8 [0x01#8, 0x3F#8, 0x01#8, 0x00#8, 0x7F#8]).serves 0x0F#8
        ⟨0x0F#8, 0x05#8, [0x01#8, 0x3F#8, 0x01#8, 0x00#8, 0x7F#8]⟩ [] ∧
      ((0x3F#8).toNat ≤ 63 ∧ (0x3F#8).toNat + 1 ≤ 64 ∧ ¬ (0x3F#8).toNat + 2 ≤ 64 ∧ 1 < (0x02#8).toNat) :=
  ⟨requesting_serves _ _, by decide, ⟨_, List.mem_singleton_self _, rfl, _, _, rfl, by decide⟩,
    ⟨_, List.mem_singleton_self _, by decide⟩, by decide, by decide, requesting_serves _ _, by decide⟩

theorem witness_DisplaySettingsAndTestAreApplied :
    (requesting 0x10#8 [0x01#8, 0x10#8, 0x08#8]).serves 0x10#8 ⟨0x10#8, 0x05#8, [0x01#8, 0x10#8, 0x08#8]⟩ [] ∧
      ((0x01#8).toNat ≤ 1 ∧ (0x10#8).toNat ≤ 16 ∧ (0x08#8).toNat ≤ 8 ∧ ¬ (0x09#8).toNat ≤ 8) ∧
      (requesting 0x11#8 [0x32#8]).serves 0x11#8 ⟨0x11#8, 0x05#8, [0x32#8]⟩ [] ∧
      (0x32#8).toNat ≤ 50 ∧ 50 < (0x33#8).toNat :=
  ⟨requesting_serves _ _, by decide, requesting_serves _ _, by decide, by decide⟩

/-- A quiet part with a SLEEP of the widest mask; after reset alone READY is pending, so it is not quiet. -/
theorem witness_SleepIsAcceptedOnlyWhenQuiet :
    State.serves 0x13#8 ⟨0x13#8, 0x05#8, [0x07#8]⟩ [] { requesting 0x13#8 [0x07#8] with notices.ready := none } ∧
      State.quiet { requesting 0x13#8 [0x07#8] with notices.ready := none, dispatch.requests := [] } = true ∧
      State.reset.notices.ready ≠ none ∧ (0x07#8).toNat ≤ 7 ∧ 7 < (0x08#8).toNat :=
  ⟨⟨⟨rfl, rfl⟩, rfl, .inl rfl, (by decide : 0 < 4), rfl, rfl⟩, by decide, by decide, by decide, by decide⟩

theorem witness_SetNoticesSetsThreeSettings :
    (requesting 0x14#8 [0x1C#8, 0x03#8, 0x64#8]).serves 0x14#8 ⟨0x14#8, 0x05#8, [0x1C#8, 0x03#8, 0x64#8]⟩ [] ∧
      ((∀ i : Fin 8, (0x1C#8).getLsbD i.val = true → 2 ≤ i.val ∧ i.val ≤ 4) ∧ (0x03#8).toNat ≤ 3 ∧
        (0x64#8).toNat ≤ 100) ∧ ((0x20#8).getLsbD 5 = true ∧ ¬ (0x65#8).toNat ≤ 100) :=
  ⟨requesting_serves _ _, by decide, by decide⟩

/-! ### Witnesses for the invariants: sound states in which something is going on, and a step from each -/

/-- The sound states below, with one command waiting, all take a step. -/
theorem witness_step_answers (s : State) :
    ∃ t, step { s with pending := [.millisecondTick] } = .next t :=
  exec_next .millisecondTick { s with pending := [] }

theorem witness_StepKeepsTheQueueSound : QueueSound [.press 0#8 0 0#16, .lost 255] := pressAndLost_sound

theorem witness_StepKeepsThePanelSound_dispatch : DispatchSound (after .slotStart State.reset) := by
  constructor <;> decide

theorem witness_StepKeepsThePanelSound : PanelSound (after .slotStart State.reset) where
  scan := ⟨by constructor <;> decide, (fun _ h => nomatch h), by decide, (fun _ h => nomatch h)⟩
  driven := by decide
  released := by decide
  lit := by decide
  swept := by decide
  unscanned := by decide
  dark := by decide
  brightness := by decide
  halfPeriod := by decide
  blinkTimer := by decide
  steady := by decide
  sweep := by decide

/-- The chord sequence's state, with key 7 DOWN besides, repeating and with its hold timer running. -/
def busyKeys : State :=
  { collecting 3049#16 with
    keys.table := ((State.reset.keys.table.set 4 (downRecord 3017#16)).set 5 (downRecord 3033#16)).set 7 (downRecord 0#16)
    keys.downSet := [7, 4, 5]
    repeatHold.owner := some ⟨7, .period⟩
    repeatHold.timer := some 3100#16
    repeatHold.holdTimers := State.reset.repeatHold.holdTimers.set 7 (some 3300#16) }

theorem witness_KeysSound : KeysSound busyKeys where
  scan := ⟨by constructor <;> decide, (fun _ h => nomatch h), by decide, (fun _ h => nomatch h)⟩
  records :=
    { count := by
        have h : ∀ k : KeyIndex, (busyKeys.record k).phase = .up ∧ (busyKeys.record k).count = 0 ∨
            (busyKeys.record k).phase = .down ∧ (busyKeys.record k).count = 0 := by decide
        intro k
        rcases h k with ⟨hp, hc⟩ | ⟨hp, hc⟩ <;> simp [KeyRecord.countSound, hp, hc]
      reason := by decide
      admission := by decide
      chorded := by decide
      disabled := by decide
      unscanned := by decide }
  downSet := ⟨by decide, by decide, by decide, by decide⟩
  chords :=
    { members := (collecting_chordsSound 3049#16).members
      distinct := (collecting_chordsSound 3049#16).distinct
      order := by decide
      atMost := by decide
      window := by decide
      press := by decide
      within := fun _ => ⟨0, ⟨0x40#8, [4, 5]⟩, rfl, by decide⟩ }
  repeatHold :=
    { owner := by
        intro o h
        injection h with h
        subst h
        decide
      timer := by decide
      hold := by decide
      delay := by decide
      period := by decide
      time := by decide
      window := by decide
      quiet := by decide }

theorem witness_StepKeepsEncodersFaultsAndLinkSound :
    EncodersSound (turning 2#2 (-3) (-127)) ∧ FaultSound { clearFault with ghostCount := 255, lastGhost := 63 } ∧
      LinkSound { (receiving (.body 2 [0x02#8])).link with gapTimer := some 6#16, replyRun := 2 } := by
  refine ⟨⟨?_, ?_⟩, ?_, ?_⟩ <;> constructor <;> first | decide | exact ⟨by decide, by decide, by decide⟩

/-- SCAN_WAIT with a pending configuration and the reply list full but for the reserved place. -/
def scanWaiting : State :=
  { State.reset with
    scan.pendingScan := some onePosition
    dispatch := { requests := [⟨0x01#8, 0x06#8, []⟩], replies := List.replicate 3 ⟨0x81#8, 0x00#8, []⟩, phase := .scanWait } }

theorem witness_StepKeepsTheDispatcherSound : DispatchSound scanWaiting := by
  constructor <;> decide

theorem witness_StepKeepsTheNoticesSound : NoticesSound (outstanding .sent 4) := by
  constructor <;> decide

/-- The end of a notice's transmission, which is no reply of RESTART, changes none of the settings. -/
theorem witness_SettingsChangeOnlyByTheirCommands :
    let c : Instr := .endOfTransmission rest11
    let s := sending ⟨0xA0#8, 0x09#8, [0x00#8]⟩ .notice .idle .awake
    (∀ cause spd pins, c ≠ .hardwareReset cause spd pins) ∧
      (∀ f : Frame, s.link.tx ≠ some { frame := f, source := .reply }) ∧ (∀ returns, c ≠ .slotEnd returns) ∧
      c ≠ .setKeymap ∧ c ≠ .setChord ∧ c ≠ .setTiming ∧ (∀ pins, c ≠ .setEncoders pins) ∧ c ≠ .writeDisplay ∧
      c ≠ .setGlyphs ∧ c ≠ .setDisplay ∧ c ≠ .sleep ∧ c ≠ .setNotices ∧ (∀ ch pins, c ≠ .encoderSample ch pins) ∧
      ∃ t, exec c s = .next t := by
  refine ⟨?_, ?_, ?_, ?_, ?_, ?_, ?_, ?_, ?_, ?_, ?_, ?_, ?_, ⟨_, rfl⟩⟩ <;> intros <;> intro h <;> cases h

end Sys2Proof.Tests
end

section
/-!
SUPPORT. Two frames that many commands share, each with its members: what the link interface, the dispatcher and the
notice manager leave unchanged, and the settings and tables of R16 to R175 that only their own requests change.
-/
namespace Sys2Proof.Machine

/-! ### The frame of the link side -/

/-- What no operation of the frame receiver, the arbiter, the dispatcher's lists and the outstanding notices changes:
every block of the panel side, the link rate and the three notice settings. -/
structure LinkSideFrame (s t : State) : Prop where
  scan       : t.scan = s.scan
  lines      : t.lines = s.lines
  pins       : t.pins = s.pins
  keys       : t.keys = s.keys
  chords     : t.chords = s.chords
  repeatHold : t.repeatHold = s.repeatHold
  queue      : t.queue = s.queue
  encoders   : t.encoders = s.encoders
  display    : t.display = s.display
  power      : t.power = s.power
  rate       : t.link.rate = s.link.rate
  mask       : t.notices.mask = s.notices.mask
  window     : t.notices.window = s.notices.window
  timeout    : t.notices.timeout = s.notices.timeout

theorem LinkSideFrame.refl (s : State) : LinkSideFrame s s := by constructor <;> rfl

theorem LinkSideFrame.trans {s t u : State} (h : LinkSideFrame s t) (g : LinkSideFrame t u) : LinkSideFrame s u :=
  ⟨g.scan.trans h.scan, g.lines.trans h.lines, g.pins.trans h.pins, g.keys.trans h.keys, g.chords.trans h.chords,
    g.repeatHold.trans h.repeatHold, g.queue.trans h.queue, g.encoders.trans h.encoders, g.display.trans h.display,
    g.power.trans h.power, g.rate.trans h.rate, g.mask.trans h.mask, g.window.trans h.window,
    g.timeout.trans h.timeout⟩

theorem reportValidFrame_linkSide (s : State) : LinkSideFrame s (reportValidFrame s) := by
  rcases reportValidFrame_cases s with ⟨-, h⟩ | ⟨-, h⟩ <;> rw [h] <;> constructor <;> rfl

theorem deliverReport_linkSide (s : State) : LinkSideFrame s (deliverReport s) := by
  rw [deliverReport_frame s]; constructor <;> rfl

/-- An owed report leaves the dispatcher, the frame on TXD and the frame receiver as they are (R174). -/
theorem deliverReport_dispatch (s : State) :
    (deliverReport s).dispatch = s.dispatch ∧ (deliverReport s).link.tx = s.link.tx := by
  rw [deliverReport_frame s]; exact ⟨rfl, rfl⟩

theorem dispatch_linkSide (d : DispatchBlock) (s : State) : LinkSideFrame s { s with dispatch := d } := by
  constructor <;> rfl

theorem settleDispatcher_linkSide (s : State) : LinkSideFrame s (settleDispatcher s) := by
  unfold settleDispatcher; split <;> constructor <;> rfl

theorem finishRequest_linkSide (r : Frame) (p : List Byte) (s : State) : LinkSideFrame s (finishRequest r p s) := by
  constructor <;> rfl

theorem huntAgain_linkSide (s : State) : LinkSideFrame s (huntAgain s) := by constructor <;> rfl

theorem settleAck_linkSide (f : Frame) (s : State) : LinkSideFrame s (settleAck f s) := by
  unfold settleAck acknowledge
  split
  · split <;> constructor <;> rfl
  · constructor <;> rfl

theorem settleArrival_linkSide (f : Frame) (s : State) : LinkSideFrame s (settleArrival f s) := by
  unfold settleArrival
  refine LinkSideFrame.trans ?_ (settleDispatcher_linkSide _)
  split
  · constructor <;> rfl
  · split <;> constructor <;> rfl

theorem settleUnknown_linkSide (f : Frame) (s : State) : LinkSideFrame s (settleUnknown f s) := by
  unfold settleUnknown
  refine LinkSideFrame.trans ?_ (settleDispatcher_linkSide _)
  split <;> constructor <;> rfl

theorem handOn_linkSide (f : Frame) (s : State) : LinkSideFrame s (handOn f s) := by
  rcases handOn_cases f s with ⟨-, h⟩ | ⟨-, -, h⟩ | ⟨-, h⟩ <;> rw [h]
  · exact (settleArrival_linkSide f s).trans (reportValidFrame_linkSide _)
  · exact (settleAck_linkSide f s).trans (reportValidFrame_linkSide _)
  · exact (settleUnknown_linkSide f s).trans (reportValidFrame_linkSide _)

/-- Everything taking a good byte can do: the frame receiver moves on, with a counter perhaps raised, or a valid frame
is handed on (R140, R141, R144). -/
theorem takeByte_cases (b : Byte) (s : State) :
    (LinkSideFrame s (takeByte b s) ∧ (takeByte b s).dispatch = s.dispatch) ∨
      ∃ f, takeByte b s = handOn f (huntAgain s) := by
  unfold takeByte
  split
  · split
    · exact .inl ⟨by constructor <;> rfl, rfl⟩
    · exact .inl ⟨.refl s, rfl⟩
  · split <;> exact .inl ⟨by constructor <;> rfl, rfl⟩
  · exact .inl ⟨by constructor <;> rfl, rfl⟩
  · unfold takeCheck
    split
    next f _ => exact .inr ⟨f, rfl⟩
    next => exact .inl ⟨by constructor <;> rfl, rfl⟩

theorem takeByte_linkSide (b : Byte) (s : State) : LinkSideFrame s (takeByte b s) := by
  rcases takeByte_cases b s with ⟨h, -⟩ | ⟨f, h⟩
  · exact h
  · rw [h]; exact (huntAgain_linkSide s).trans (handOn_linkSide f _)

theorem takeFramingError_linkSide (s : State) : LinkSideFrame s (takeFramingError s) := by constructor <;> rfl

theorem expireGap_linkSide (s : State) : LinkSideFrame s (expireGap s) := by
  unfold expireGap; split <;> constructor <;> rfl

/-- Everything the arbiter can do: begin the oldest reply, or leave the dispatcher as it is, having begun a notice or
nothing (R147). -/
theorem chooseFrame_cases (s : State) :
    (∃ f rest, s.dispatch.replies = f :: rest ∧ chooseFrame s = beginReply f rest s) ∨
      (LinkSideFrame s (chooseFrame s) ∧ (chooseFrame s).dispatch = s.dispatch) := by
  have notice : LinkSideFrame s (chooseNotice s) ∧ (chooseNotice s).dispatch = s.dispatch := by
    unfold chooseNotice
    split
    · exact ⟨by constructor <;> rfl, rfl⟩
    · exact ⟨.refl s, rfl⟩
  unfold chooseFrame
  split
  next f rest h =>
    split
    · exact .inr notice
    · exact .inl ⟨f, rest, h, rfl⟩
  next =>
    split
    · exact .inr notice
    · exact .inr ⟨.refl s, rfl⟩

theorem chooseFrame_linkSide (s : State) : LinkSideFrame s (chooseFrame s) := by
  rcases chooseFrame_cases s with ⟨f, rest, -, h⟩ | ⟨h, -⟩
  · rw [h]; constructor <;> rfl
  · exact h

/-- The end of a notice's transmission, or of a plain reply's, touches the transmitter and the acknowledgement timer
alone (R146, R170). -/
theorem noticeSent_linkSide (seq : Byte) (s : State) :
    LinkSideFrame s (noticeSent seq s) ∧ (noticeSent seq s).dispatch = s.dispatch := by
  unfold noticeSent; split <;> exact ⟨by constructor <;> rfl, rfl⟩

theorem expireAck_linkSide (s : State) : LinkSideFrame s (expireAck s) ∧ (expireAck s).dispatch = s.dispatch := by
  unfold expireAck
  split
  · split <;> exact ⟨by constructor <;> rfl, rfl⟩
  · exact ⟨.refl s, rfl⟩

/-! ### The settings and tables that only their own requests change -/

/-- The settings and tables of the part, each with one request that changes it, the scan configuration, and the encoder
positions. -/
inductive Setting where
  | keyMap
  | chordSlots
  | timing
  | encoders
  | displayBuffer
  | glyphBanks
  | display
  | wakeMask
  | notices
  | scanConfig
  | position (channel : Channel)

/-- The setting a command may change, apart from the two resets (R13, R16, R52, R71, R95, R101, R110 to R113, R129,
R168). -/
def settingOf : Instr → Option Setting
  | .slotEnd _ => some .scanConfig
  | .encoderSample ch _ => some (.position ch)
  | .setKeymap => some .keyMap
  | .setChord => some .chordSlots
  | .setTiming => some .timing
  | .setEncoders _ => some .encoders
  | .writeDisplay => some .displayBuffer
  | .setGlyphs => some .glyphBanks
  | .setDisplay => some .display
  | .sleep => some .wakeMask
  | .setNotices => some .notices
  | _ => none

/-- Every setting but `x` is the same in both states, and so is the link rate. -/
structure SettingsKept (x : Option Setting) (s t : State) : Prop where
  rate     : t.link.rate = s.link.rate
  map      : x ≠ some .keyMap → t.keys.map = s.keys.map
  slots    : x ≠ some .chordSlots → t.chords.slots = s.chords.slots
  timing   : x ≠ some .timing →
    t.repeatHold.repeatDelay = s.repeatHold.repeatDelay ∧ t.repeatHold.repeatPeriod = s.repeatHold.repeatPeriod ∧
      t.repeatHold.holdTime = s.repeatHold.holdTime ∧ t.repeatHold.chordWindow = s.repeatHold.chordWindow
  channels : x ≠ some .encoders → ∀ ch : Channel,
    (t.channel ch).enabled = (s.channel ch).enabled ∧ (t.channel ch).stepsPerDetent = (s.channel ch).stepsPerDetent ∧
      (t.channel ch).interval = (s.channel ch).interval
  buffer   : x ≠ some .displayBuffer → t.display.buffer = s.display.buffer
  banks    : x ≠ some .glyphBanks → t.display.bankA = s.display.bankA ∧ t.display.bankB = s.display.bankB
  display  : x ≠ some .display →
    t.display.enable = s.display.enable ∧ t.display.brightness = s.display.brightness ∧
      t.display.blinkHalf = s.display.blinkHalf
  wakeMask : x ≠ some .wakeMask → t.power.mask = s.power.mask
  notices  : x ≠ some .notices →
    t.notices.mask = s.notices.mask ∧ t.notices.window = s.notices.window ∧ t.notices.timeout = s.notices.timeout
  config   : x ≠ some .scanConfig → t.scan.config = s.scan.config
  position : ∀ ch : Channel, x ≠ some (.position ch) → (t.channel ch).position = (s.channel ch).position

theorem SettingsKept.refl (x : Option Setting) (s : State) : SettingsKept x s s := by
  constructor <;> intros <;> simp

theorem SettingsKept.trans {x : Option Setting} {s t u : State} (h : SettingsKept x s t) (g : SettingsKept x t u) :
    SettingsKept x s u where
  rate := g.rate.trans h.rate
  map hx := (g.map hx).trans (h.map hx)
  slots hx := (g.slots hx).trans (h.slots hx)
  timing hx := by
    obtain ⟨h1, h2, h3, h4⟩ := h.timing hx
    obtain ⟨g1, g2, g3, g4⟩ := g.timing hx
    exact ⟨g1.trans h1, g2.trans h2, g3.trans h3, g4.trans h4⟩
  channels hx ch := by
    obtain ⟨h1, h2, h3⟩ := h.channels hx ch
    obtain ⟨g1, g2, g3⟩ := g.channels hx ch
    exact ⟨g1.trans h1, g2.trans h2, g3.trans h3⟩
  buffer hx := (g.buffer hx).trans (h.buffer hx)
  banks hx := ⟨(g.banks hx).1.trans (h.banks hx).1, (g.banks hx).2.trans (h.banks hx).2⟩
  display hx := by
    obtain ⟨h1, h2, h3⟩ := h.display hx
    obtain ⟨g1, g2, g3⟩ := g.display hx
    exact ⟨g1.trans h1, g2.trans h2, g3.trans h3⟩
  wakeMask hx := (g.wakeMask hx).trans (h.wakeMask hx)
  notices hx := by
    obtain ⟨h1, h2, h3⟩ := h.notices hx
    obtain ⟨g1, g2, g3⟩ := g.notices hx
    exact ⟨g1.trans h1, g2.trans h2, g3.trans h3⟩
  config hx := (g.config hx).trans (h.config hx)
  position ch hx := (g.position ch hx).trans (h.position ch hx)

theorem State.channel_congr {s t : State} (h : t.encoders = s.encoders) (ch : Channel) :
    t.channel ch = s.channel ch := by
  cases ch <;> simp [State.channel, h]

theorem LinkSideFrame.settings {s t : State} (h : LinkSideFrame s t) (x : Option Setting) : SettingsKept x s t := by
  constructor <;> intros <;>
    simp [h.rate, h.keys, h.chords, h.repeatHold, State.channel_congr h.encoders, h.display, h.power, h.mask, h.window,
      h.timeout, h.scan]

theorem KeyPathFrame.settings {s t : State} (h : KeyPathFrame s t) (x : Option Setting) : SettingsKept x s t := by
  have mask : t.notices.mask = s.notices.mask := by rw [← h.notices]
  have window : t.notices.window = s.notices.window := by rw [← h.notices]
  have timeout : t.notices.timeout = s.notices.timeout := by rw [← h.notices]
  constructor <;> intros <;>
    simp [h.link, h.map, h.slots, h.repeatDelay, h.repeatPeriod, h.holdTime, h.chordWindow,
      State.channel_congr h.encoders, h.display, h.power, mask, window, timeout, h.scan]

/-! ### Settings and the operations of each block -/

/-- Replacing one encoder channel by one with the same settings and the same position. -/
theorem setChannel_settings {x : Option Setting} {s : State} {c : Channel} {e : EncoderChannel}
    (settings : x ≠ some .encoders → e.enabled = (s.channel c).enabled ∧
      e.stepsPerDetent = (s.channel c).stepsPerDetent ∧ e.interval = (s.channel c).interval)
    (position : x ≠ some (.position c) → e.position = (s.channel c).position) :
    SettingsKept x s (s.setChannel c e) where
  rate := by simp
  map _ := by simp
  slots _ := by simp
  timing _ := by simp
  channels hx ch := by
    by_cases h : ch = c
    · subst h; simpa using settings hx
    · simp [h]
  buffer _ := by simp
  banks _ := by simp
  display _ := by simp
  wakeMask _ := by simp
  notices _ := by simp
  config _ := by simp
  position ch hx := by
    by_cases h : ch = c
    · subst h; simpa using position hx
    · simp [h]

/-- Replacing both encoder channels by ones with the same settings and positions. -/
theorem setChannels_settings {x : Option Setting} {s : State} {f : EncoderChannel → EncoderChannel}
    {g : EncoderChannel → EncoderChannel}
    (hf : ∀ e, (f e).enabled = e.enabled ∧ (f e).stepsPerDetent = e.stepsPerDetent ∧ (f e).interval = e.interval ∧
      (f e).position = e.position)
    (hg : ∀ e, (g e).enabled = e.enabled ∧ (g e).stepsPerDetent = e.stepsPerDetent ∧ (g e).interval = e.interval ∧
      (g e).position = e.position) :
    SettingsKept x s { s with encoders := { e0 := f s.encoders.e0, e1 := g s.encoders.e1 } } := by
  obtain ⟨f1, f2, f3, f4⟩ := hf s.encoders.e0
  obtain ⟨g1, g2, g3, g4⟩ := hg s.encoders.e1
  have first : SettingsKept x s (s.setChannel .e0 (f s.encoders.e0)) :=
    setChannel_settings (fun _ => ⟨f1, f2, f3⟩) fun _ => f4
  exact first.trans (setChannel_settings (c := .e1) (fun _ => ⟨g1, g2, g3⟩) fun _ => g4)

theorem tick_settings (s : State) : SettingsKept none s (tick s) := by
  have owed : SettingsKept none s { s with encoders :=
      { e0 := oweSample s.power.state s.encoders.e0, e1 := oweSample s.power.state s.encoders.e1 } } :=
    setChannels_settings (fun _ => ⟨rfl, rfl, rfl, rfl⟩) fun _ => ⟨rfl, rfl, rfl, rfl⟩
  exact owed.trans (by constructor <;> intros <;> and_intros <;> rfl)

theorem startSlot_settings (s : State) : SettingsKept none s (startSlot s) := by
  constructor <;> intros <;> and_intros <;> rfl

theorem takeSample_settings (c : Channel) (s : State) : SettingsKept (some (.position c)) s (takeSample c s) := by
  have kept : ∀ acc e, (countSteps acc e).enabled = e.enabled ∧ (countSteps acc e).stepsPerDetent = e.stepsPerDetent ∧
      (countSteps acc e).interval = e.interval := by
    intro acc e
    unfold countSteps forwardDetent backwardDetent
    split
    · split <;> exact ⟨rfl, rfl, rfl⟩
    · split
      · split <;> exact ⟨rfl, rfl, rfl⟩
      · exact ⟨rfl, rfl, rfl⟩
  have sample : ∀ q e, (sampleChannel q e).enabled = e.enabled ∧ (sampleChannel q e).stepsPerDetent = e.stepsPerDetent ∧
      (sampleChannel q e).interval = e.interval := by
    intro q e
    unfold sampleChannel
    split
    · exact ⟨rfl, rfl, rfl⟩
    · exact kept _ _
    · exact kept _ _
    · exact ⟨rfl, rfl, rfl⟩
  have set : SettingsKept (some (.position c)) s
      (s.setChannel c { sampleChannel (s.pinsOf c) (s.channel c) with sampleDue := false }) :=
    setChannel_settings (fun _ => sample _ _) fun h => absurd rfl h
  unfold takeSample
  simp only
  split
  · exact set.trans (by constructor <;> intros <;> and_intros <;> rfl)
  · exact set

theorem presentEncoderPins_settings (p : EncoderPins) (x : Option Setting) (s : State) :
    SettingsKept x s (presentEncoderPins p s) := by
  constructor <;> intros <;> and_intros <;> rfl

theorem presentPair_settings (c : Channel) (p : QuadPair) (x : Option Setting) (s : State) :
    SettingsKept x s (presentPair c p s) := by
  cases c <;> constructor <;> intros <;> and_intros <;> rfl

theorem resyncChannel_settings (pins : QuadPair) (e : EncoderChannel) :
    (resyncChannel pins e).enabled = e.enabled ∧ (resyncChannel pins e).stepsPerDetent = e.stepsPerDetent ∧
      (resyncChannel pins e).interval = e.interval ∧ (resyncChannel pins e).position = e.position := by
  unfold resyncChannel; split <;> exact ⟨rfl, rfl, rfl, rfl⟩

theorem wakePart_settings (cause : WakeCause) (x : Option Setting) (s : State) :
    SettingsKept x s (wakePart cause s) := by
  have resynced : SettingsKept x s { s with encoders :=
      { e0 := resyncChannel s.pins.e0 s.encoders.e0, e1 := resyncChannel s.pins.e1 s.encoders.e1 } } :=
    setChannels_settings (resyncChannel_settings _) (resyncChannel_settings _)
  exact resynced.trans (by constructor <;> intros <;> and_intros <;> rfl)

theorem byteArrives_settings (x : Option Setting) (s : State) : SettingsKept x s (byteArrives s) := by
  unfold byteArrives
  split
  · exact .refl _ s
  · constructor <;> intros <;> and_intros <;> rfl
  · exact wakePart_settings .link x s

theorem expireBlink_settings (s : State) : SettingsKept none s (expireBlink s) := by
  unfold expireBlink; split <;> constructor <;> intros <;> and_intros <;> rfl

theorem sweepOnce_settings (s : State) : SettingsKept none s (sweepOnce s) := by
  have driven : SettingsKept none s (sweepLines s) := by constructor <;> intros <;> and_intros <;> rfl
  unfold sweepOnce settleSweep
  split
  · exact driven.trans (wakePart_settings _ _ _)
  · exact driven.trans (by constructor <;> intros <;> and_intros <;> rfl)

theorem composeClass_settings (c : NoticeClass) (s : State) : SettingsKept none s (composeClass c s) := by
  have report : ∀ now e, (reportChannel now e).enabled = e.enabled ∧
      (reportChannel now e).stepsPerDetent = e.stepsPerDetent ∧ (reportChannel now e).interval = e.interval ∧
      (reportChannel now e).position = e.position := by
    intro now e
    unfold reportChannel; split <;> exact ⟨rfl, rfl, rfl, rfl⟩
  have append : ∀ n u, SettingsKept none u (appendNotice n u) := by
    intro n u
    constructor <;> intros <;> and_intros <;> rfl
  cases c with
  | ready =>
    simp only [composeClass]
    split <;> constructor <;> intros <;> and_intros <;> rfl
  | wake =>
    simp only [composeClass]
    split <;> constructor <;> intros <;> and_intros <;> rfl
  | panelFault => constructor <;> intros <;> and_intros <;> rfl
  | keys => constructor <;> intros <;> and_intros <;> rfl
  | encoder =>
    exact (setChannels_settings (report s.now) (report s.now)).trans (append (.encoder s.dueReports) _)

theorem composeNotice_settings (s : State) : SettingsKept none s (composeNotice s) := by
  unfold composeNotice
  split
  · split
    · exact composeClass_settings _ s
    · exact .refl _ s
  · exact .refl _ s

/-- What a composition leaves alone: the dispatcher, the scan engine, the lines, the pins, the keys, the display and the
power state (R169). -/
theorem composeNotice_frame (s : State) :
    (composeNotice s).dispatch = s.dispatch ∧ (composeNotice s).scan = s.scan ∧ (composeNotice s).lines = s.lines ∧
      (composeNotice s).pins = s.pins ∧ (composeNotice s).keys = s.keys ∧ (composeNotice s).display = s.display ∧
      (composeNotice s).power = s.power := by
  have composed : ∀ c, (composeClass c s).dispatch = s.dispatch ∧ (composeClass c s).scan = s.scan ∧
      (composeClass c s).lines = s.lines ∧ (composeClass c s).pins = s.pins ∧ (composeClass c s).keys = s.keys ∧
      (composeClass c s).display = s.display ∧ (composeClass c s).power = s.power := by
    intro c
    unfold composeClass
    split
    · split <;> exact ⟨rfl, rfl, rfl, rfl, rfl, rfl, rfl⟩
    · split <;> exact ⟨rfl, rfl, rfl, rfl, rfl, rfl, rfl⟩
    all_goals exact ⟨rfl, rfl, rfl, rfl, rfl, rfl, rfl⟩
  unfold composeNotice
  split
  · split
    · exact composed _
    · exact ⟨rfl, rfl, rfl, rfl, rfl, rfl, rfl⟩
  · exact ⟨rfl, rfl, rfl, rfl, rfl, rfl, rfl⟩

theorem checkSleepEntry_settings (s : State) : SettingsKept none s (checkSleepEntry s) := by
  unfold checkSleepEntry; split <;> constructor <;> intros <;> and_intros <;> rfl

/-- The sample event changes none of the settings: its contact flags and debounce steps are of the key path (R5). -/
theorem updateContacts_settings (p : Position) (lines : List ReturnLine) (x : Option Setting) (s : State) :
    SettingsKept x s (lines.foldl (updateContact p) s) := by
  induction lines generalizing s with
  | nil => exact .refl x s
  | cons l rest ih =>
    have one : SettingsKept x s (updateContact p s l) := by constructor <;> intros <;> and_intros <;> rfl
    exact one.trans (ih _)

theorem sampleEvent_settings (p : Position) (x : Option Setting) (s : State) : SettingsKept x s (sampleEvent p s) :=
  (updateContacts_settings p allLines x s).trans ((debounceSteps_frame p allLines _).settings x)

/-- Everything the frame boundary can do: nothing without a pending configuration, apply it with every key UP, or
discard it, with its reply posted (R6, R13). -/
theorem settlePending_cases (s : State) :
    (s.scan.pendingScan = none ∧ settlePending s = s) ∨
      ∃ q, s.scan.pendingScan = some q ∧
        ((s.allUp = true ∧ settlePending s = finishRequest q.request [ResultCode.ok.byte]
            (applyConfig q.config { s with scan.pendingScan := none })) ∨
          (s.allUp = false ∧ settlePending s = finishRequest q.request [ResultCode.keyActive.byte]
            { s with scan.pendingScan := none })) := by
  unfold settlePending
  split
  next h => exact .inl ⟨h, rfl⟩
  next q h =>
    refine .inr ⟨q, h, ?_⟩
    cases hu : s.allUp
    · exact .inr ⟨rfl, by simp⟩
    · exact .inl ⟨rfl, by simp⟩

theorem applyConfig_settings (c : ScanConfig) (s : State) :
    SettingsKept (some .scanConfig) s (applyConfig c s) := by
  constructor <;> intros <;> first | contradiction | simp [applyConfig, State.channel]

theorem settlePending_settings (s : State) : SettingsKept (some .scanConfig) s (settlePending s) := by
  have taken : SettingsKept (some .scanConfig) s { s with scan.pendingScan := none } := by
    constructor <;> intros <;> and_intros <;> rfl
  rcases settlePending_cases s with ⟨-, h⟩ | ⟨q, -, ⟨-, h⟩ | ⟨-, h⟩⟩ <;> rw [h]
  · exact .refl _ s
  · exact (taken.trans (applyConfig_settings _ _)).trans ((finishRequest_linkSide _ _ _).settings _)
  · exact taken.trans ((finishRequest_linkSide _ _ _).settings _)

theorem releaseSlot_settings (x : Option Setting) (s : State) : SettingsKept x s (releaseSlot s) := by
  constructor <;> intros <;> and_intros <;> rfl

/-- The end of a slot is its sample, the release, and at the frame boundary the pending configuration (R4, R5, R6). -/
theorem endSlot_eq (s : State) :
    endSlot s = if s.scan.slotIndex.val + 1 = s.scan.config.positions then
        settlePending (releaseSlot (if s.scan.config.keyScanning then sampleEvent s.scan.slotIndex s else s))
      else releaseSlot (if s.scan.config.keyScanning then sampleEvent s.scan.slotIndex s else s) := rfl

theorem endSlot_settings (s : State) : SettingsKept (some .scanConfig) s (endSlot s) := by
  have sampled : SettingsKept (some .scanConfig) s
      (if s.scan.config.keyScanning then sampleEvent s.scan.slotIndex s else s) := by
    split
    · exact sampleEvent_settings _ _ s
    · exact .refl _ s
  have released := sampled.trans (releaseSlot_settings _ _)
  rw [endSlot_eq]
  split
  · exact released.trans (settlePending_settings _)
  · exact released

theorem takeReading_settings (returns : Byte) (s : State) :
    SettingsKept (some .scanConfig) s (takeReading returns s) := by
  have present : ∀ x, SettingsKept x s (presentReturns returns s) := by
    intro x
    constructor <;> intros <;> and_intros <;> rfl
  rcases takeReading_cases returns s with ⟨-, -, h⟩ | ⟨p, -, -, -, h⟩ | ⟨-, h⟩ <;> rw [h]
  · exact (present _).trans (endSlot_settings _)
  · refine ((present _).trans ?_).trans (sampleEvent_settings p _ _)
    constructor <;> intros <;> and_intros <;> rfl
  · exact .refl _ s

end Sys2Proof.Machine
end

section
/-!
SUPPORT. What a request that completes at execution can do as a whole, said once: it is not executed, or its effect
meets one frame and its reply is posted. Only RESTART, SET_SCAN and SLEEP wait for something more (R156, R157).
-/
namespace Sys2Proof.Machine

/-- What the effect of request `c` changes in no case, and a quiet event neither: scan, lines, NRST, power, dispatcher,
key records, shown patterns, every setting but the command's own, and the blink phase and timer unless it is
SET_DISPLAY. -/
structure EffectFrame (c : Instr) (s t : State) : Prop where
  kept     : SettingsKept (settingOf c) s t
  scan     : t.scan = s.scan
  lines    : t.lines = s.lines
  nrst     : t.pins.nrst = s.pins.nrst
  power    : t.power = s.power
  dispatch : t.dispatch = s.dispatch
  table    : t.keys.table = s.keys.table
  shown    : t.display.shown = s.display.shown
  blink    : c ≠ .setDisplay → t.display.blinkOn = s.display.blinkOn ∧ t.display.blinkTimer = s.display.blinkTimer

theorem EffectFrame.refl (c : Instr) (s : State) : EffectFrame c s s :=
  ⟨.refl _ s, rfl, rfl, rfl, rfl, rfl, rfl, rfl, fun _ => ⟨rfl, rfl⟩⟩

theorem EffectFrame.trans {c : Instr} {s t u : State} (h : EffectFrame c s t) (g : EffectFrame c t u) :
    EffectFrame c s u :=
  ⟨h.kept.trans g.kept, g.scan.trans h.scan, g.lines.trans h.lines, g.nrst.trans h.nrst, g.power.trans h.power,
    g.dispatch.trans h.dispatch, g.table.trans h.table, g.shown.trans h.shown,
    fun hc => ⟨(g.blink hc).1.trans (h.blink hc).1, (g.blink hc).2.trans (h.blink hc).2⟩⟩

/-- An operation of the link side that leaves the dispatcher alone meets this frame too. -/
theorem LinkSideFrame.effect {s t : State} (f : LinkSideFrame s t) (dispatch : t.dispatch = s.dispatch) (c : Instr) :
    EffectFrame c s t :=
  ⟨f.settings _, f.scan, f.lines, congrArg InputPins.nrst f.pins, f.power, dispatch, congrArg KeyBlock.table f.keys,
    congrArg DisplayBlock.shown f.display,
    fun _ => ⟨congrArg DisplayBlock.blinkOn f.display, congrArg DisplayBlock.blinkTimer f.display⟩⟩

theorem presentEncoderPins_effect (c : Instr) (p : EncoderPins) (s : State) :
    EffectFrame c s (presentEncoderPins p s) :=
  ⟨presentEncoderPins_settings p _ s, rfl, rfl, rfl, rfl, rfl, rfl, rfl, fun _ => ⟨rfl, rfl⟩⟩

/-- What an execution of request `c` that completes can do: nothing while NRST is low, and otherwise, with the pin
levels presented, no execution, or its effect and its reply on the state the request has left; an owed report is then
made (R157, R174). -/
inductive RequestStep (c : Instr) (s : State) : State → Prop where
  | heldInReset : RequestStep c s s
  | notExecuted (v : State) (presented : EffectFrame c s v) : RequestStep c s (deliverReport v)
  | answered (v : State) (r : Frame) (rest : List Frame) (payload : List Byte) (u : State)
      (presented : EffectFrame c s v) (oldest : v.dispatch.requests = r :: rest) (taken : v.canTake = true)
      (effect : EffectFrame c { v with dispatch.requests := rest } u) :
      RequestStep c s (deliverReport (finishRequest r payload u))

/-- Serving a request by `answer` is such a step, if every effect meets the frame. -/
theorem serve_requestStep {α : Type} {c : Instr} {kind : Byte} {fields : Frame → State → Read α}
    {effect : α → State → State} {reply : α → State → List Byte} {s v : State} (presented : EffectFrame c s v)
    (heff : ∀ r a u, fields r u = .ok a → EffectFrame c u (effect a u)) :
    RequestStep c s (deliverReport (serve kind (fun r u => answer (fields r u) effect reply r u) v)) := by
  rcases serve_cases kind (fun r u => answer (fields r u) effect reply r u) v with h | ⟨r, rest, hq, hc, -, h⟩ <;> rw [h]
  · exact .notExecuted v presented
  · unfold answer
    split
    next => exact .answered v r rest _ _ presented hq hc (.refl c _)
    next a ha => exact .answered v r rest _ _ presented hq hc (heff r a _ ha)

/-- The same for the whole command. -/
theorem whenServing_requestStep {α : Type} {c : Instr} {kind : Byte} {fields : Frame → State → Read α}
    {effect : α → State → State} {reply : α → State → List Byte} {s t : State}
    (h : whenServing (serve kind fun r u => answer (fields r u) effect reply r u) s = .next t)
    (heff : ∀ r a u, fields r u = .ok a → EffectFrame c u (effect a u)) : RequestStep c s t := by
  rcases whenServing_next h with ⟨-, rfl⟩ | ⟨-, rfl⟩
  · exact serve_requestStep (.refl c s) heff
  · exact .heldInReset

/-! ### The effects -/

theorem writeMap_effect (entries : List (KeyIndex × KeyMapEntry)) (s : State) :
    EffectFrame .setKeymap s (writeMap entries s) := by
  refine ⟨?_, rfl, rfl, rfl, rfl, rfl, rfl, rfl, fun _ => ⟨rfl, rfl⟩⟩
  constructor <;> intros <;> first | contradiction | (and_intros <;> rfl)

theorem setTiming_effect (q : TimingRequest) (s : State) : EffectFrame .setTiming s (setTiming q s) := by
  refine ⟨?_, rfl, rfl, rfl, rfl, rfl, rfl, rfl, fun _ => ⟨rfl, rfl⟩⟩
  constructor <;> intros <;> first | contradiction | (and_intros <;> rfl)

theorem emptyQueue_effect (s : State) : EffectFrame .flushKeys s { s with queue := [] } := by
  refine ⟨?_, rfl, rfl, rfl, rfl, rfl, rfl, rfl, fun _ => ⟨rfl, rfl⟩⟩
  constructor <;> intros <;> and_intros <;> rfl

theorem writeRecords_effect (v : Vector DisplayRecord 8) (s : State) :
    EffectFrame .writeDisplay s { s with display.buffer := v } := by
  refine ⟨?_, rfl, rfl, rfl, rfl, rfl, rfl, rfl, fun _ => ⟨rfl, rfl⟩⟩
  constructor <;> intros <;> first | contradiction | (and_intros <;> rfl)

theorem setDisplay_effect (q : DisplayRequest) (s : State) : EffectFrame .setDisplay s (setDisplay q s) := by
  refine ⟨?_, rfl, rfl, rfl, rfl, rfl, rfl, rfl, fun hd => absurd rfl hd⟩
  constructor <;> intros <;> first | contradiction | (and_intros <;> rfl)

theorem runTest_effect (ms : Nat) (s : State) : EffectFrame .displayTest s (runTest ms s) := by
  refine ⟨?_, rfl, rfl, rfl, rfl, rfl, rfl, rfl, fun _ => ⟨rfl, rfl⟩⟩
  constructor <;> intros <;> and_intros <;> rfl

theorem setNotices_effect (q : NoticeRequest) (s : State) : EffectFrame .setNotices s (setNotices q s) := by
  refine ⟨?_, rfl, rfl, rfl, rfl, rfl, rfl, rfl, fun _ => ⟨rfl, rfl⟩⟩
  constructor <;> intros <;> first | contradiction | (and_intros <;> rfl)

theorem clearCounters_effect (clear : Bool) (s : State) :
    EffectFrame .getLinkStats s (if clear then { s with link.counters := zeroCounters } else s) := by
  cases clear
  · exact .refl _ s
  · refine ⟨?_, rfl, rfl, rfl, rfl, rfl, rfl, rfl, fun _ => ⟨rfl, rfl⟩⟩
    constructor <;> intros <;> and_intros <;> rfl

theorem writeChord_effect (q : ChordRequest) (s : State) : EffectFrame .setChord s (writeChord q s) := by
  have write : ∀ u : State, EffectFrame .setChord u { u with chords.slots := u.chords.slots.set q.slot q.record } := by
    intro u
    refine ⟨?_, rfl, rfl, rfl, rfl, rfl, rfl, rfl, fun _ => ⟨rfl, rfl⟩⟩
    constructor <;> intros <;> and_intros <;> first | rfl | contradiction
  obtain ⟨f, hk, -, -⟩ := flushHeld_frame s
  unfold writeChord
  simp only
  split
  · exact write s
  · obtain ⟨kept, scan, lines, nrst, power, dispatch, table, shown, blink⟩ := write (flushHeld s)
    exact ⟨(f.settings _).trans kept, scan.trans f.scan, lines.trans f.lines,
      nrst.trans (congrArg InputPins.nrst f.pins), power.trans f.power, dispatch.trans f.dispatch,
      table.trans (congrArg KeyBlock.table hk), shown.trans (congrArg DisplayBlock.shown f.display),
      fun _ => ⟨congrArg DisplayBlock.blinkOn f.display, congrArg DisplayBlock.blinkTimer f.display⟩⟩

theorem setEncoders_effect (pins : EncoderPins) (q : EncoderRequest) (s : State) :
    EffectFrame (.setEncoders pins) s (setEncoders q s) := by
  have position : ∀ p e, (configureChannel p q e).position = e.position := by
    intro p e
    unfold configureChannel
    simp only
    split <;> rfl
  unfold setEncoders
  exact ⟨setChannel_settings (fun h => absurd rfl h) fun _ => position _ _, by simp, by simp, by simp, by simp, by simp,
    by simp, by simp, fun _ => by simp⟩

theorem clearEncoders_effect (clear : Bool) (s : State) : EffectFrame .readEncoders s (clearEncoders clear s) := by
  unfold clearEncoders
  split
  · exact ⟨setChannels_settings (fun _ => ⟨rfl, rfl, rfl, rfl⟩) fun _ => ⟨rfl, rfl, rfl, rfl⟩, rfl, rfl, rfl, rfl, rfl,
      rfl, rfl, fun _ => ⟨rfl, rfl⟩⟩
  · exact .refl _ s

theorem setGlyphs_effect (bank : Bank) (start : Nat) (patterns : List Pattern) (s : State) :
    EffectFrame .setGlyphs s (setGlyphs bank start patterns s) := by
  cases bank <;> refine ⟨?_, rfl, rfl, rfl, rfl, rfl, rfl, rfl, fun _ => ⟨rfl, rfl⟩⟩ <;> constructor <;> intros <;>
    and_intros <;> first | rfl | contradiction

/-- A request that completes at execution steps as `RequestStep` says: every request but RESTART, SET_SCAN and SLEEP. -/
theorem exec_requestStep {c : Instr} {kind : Byte} {s t : State} (hk : c.requestKind = some kind)
    (hrestart : c ≠ .restart) (hscan : c ≠ .setScan) (hsleep : c ≠ .sleep) (h : exec c s = .next t) :
    RequestStep c s t := by
  cases c
  case restart => exact absurd rfl hrestart
  case setScan => exact absurd rfl hscan
  case sleep => exact absurd rfl hsleep
  case setEncoders pins =>
    have h : execSetEncoders pins s = .next t := h
    unfold execSetEncoders at h
    rcases whenServing_next h with ⟨-, rfl⟩ | ⟨-, rfl⟩
    · exact serve_requestStep (presentEncoderPins_effect _ pins s) fun _ q u _ => setEncoders_effect pins q u
    · exact .heldInReset
  case identify => exact whenServing_requestStep h fun _ _ u _ => .refl _ u
  case getStatus => exact whenServing_requestStep h fun _ _ u _ => .refl _ u
  case getKeymap => exact whenServing_requestStep h fun _ _ u _ => .refl _ u
  case readKeys => exact whenServing_requestStep h fun _ _ u _ => .refl _ u
  case getChord => exact whenServing_requestStep h fun _ _ u _ => .refl _ u
  case readDisplay => exact whenServing_requestStep h fun _ _ u _ => .refl _ u
  case setKeymap => exact whenServing_requestStep h fun _ a u _ => writeMap_effect a u
  case setChord => exact whenServing_requestStep h fun _ a u _ => writeChord_effect a u
  case setTiming => exact whenServing_requestStep h fun _ a u _ => setTiming_effect a u
  case flushKeys => exact whenServing_requestStep h fun _ _ u _ => emptyQueue_effect u
  case readEncoders => exact whenServing_requestStep h fun _ a u _ => clearEncoders_effect a u
  case writeDisplay => exact whenServing_requestStep h fun _ _ u _ => writeRecords_effect _ u
  case setGlyphs => exact whenServing_requestStep h fun _ a u _ => setGlyphs_effect a.1 a.2.1 a.2.2 u
  case setDisplay => exact whenServing_requestStep h fun _ a u _ => setDisplay_effect a u
  case displayTest => exact whenServing_requestStep h fun _ a u _ => runTest_effect a u
  case setNotices => exact whenServing_requestStep h fun _ a u _ => setNotices_effect a u
  case getLinkStats => exact whenServing_requestStep h fun _ a u _ => clearCounters_effect a u
  all_goals cases hk

/-- The settings through such a step. -/
theorem RequestStep.settings {c : Instr} {s t : State} (h : RequestStep c s t) :
    SettingsKept (settingOf c) s t := by
  cases h with
  | heldInReset => exact .refl _ s
  | notExecuted v presented => exact presented.kept.trans ((deliverReport_linkSide v).settings _)
  | answered v r rest payload u presented oldest taken effect =>
    have popped : SettingsKept (settingOf c) s { v with dispatch.requests := rest } :=
      presented.kept.trans ((dispatch_linkSide _ v).settings _)
    exact (popped.trans effect.kept).trans
      (((finishRequest_linkSide r payload u).trans (deliverReport_linkSide _)).settings _)

/-! ### Every command taken apart -/

/-- The step an event of the part makes while it is live: every command but the two of NRST and the requests. -/
def liveStep : Instr → State → State
  | .millisecondTick, s => tick s
  | .slotStart, s => if s.slotMayStart then startSlot s else s
  | .slotEnd returns, s => takeReading returns s
  | .chordWindowExpiry, s => if timerDue s.chords.window s.now then expireWindow s else s
  | .repeatTimerExpiry, s =>
    match s.repeatHold.owner with
    | some o => if timerDue s.repeatHold.timer s.now then expireRepeat o s else s
    | none => s
  | .holdTimerExpiry k, s => if timerDue s.repeatHold.holdTimers[k] s.now then expireHold k s else s
  | .encoderSample ch q, s =>
    if (presentPair ch q s).sampleAwaits ch then takeSample ch (presentPair ch q s) else presentPair ch q s
  | .coalescingTimerExpiry ch pins, s =>
    if timerDue ((presentEncoderPins pins s).channel ch).timer s.now then expireCoalescing ch (presentEncoderPins pins s)
    else presentEncoderPins pins s
  | .encoderPinChange pins, s =>
    if s.power.state = .asleep ∧
        ((presentEncoderPins pins s).pinChanged .e0 || (presentEncoderPins pins s).pinChanged .e1) then
      wakePart .encoder (presentEncoderPins pins s)
    else presentEncoderPins pins s
  | .blinkTimerExpiry, s => expireBlink s
  | .testTimerExpiry, s => expireTest s
  | .wakeSweep returns pins, s =>
    if (presentEncoderPins pins (presentReturns returns s)).sweepDue then
      sweepOnce (presentEncoderPins pins (presentReturns returns s))
    else presentEncoderPins pins (presentReturns returns s)
  | .receiveByte b sawHigh pins, s =>
    if s.startBitTaken sawHigh then takeByte b (goodByteArrives (presentEncoderPins pins s))
    else presentEncoderPins pins s
  | .framingError sawHigh pins, s =>
    if s.startBitTaken sawHigh then takeFramingError (byteArrives (presentEncoderPins pins s))
    else presentEncoderPins pins s
  | .gapTimerExpiry, s => expireGap s
  | .ack, s => completeHeld (fun k => k == ackKind) (fun f t => reportValidFrame (settleAck f t)) s
  | .requestArrival, s => completeHeld isRequestKind (fun f t => { settleArrival f t with link.reportOwed := true }) s
  | .unknownKindFrame, s => completeHeld (fun k => !isKnownKind k) (fun f t => reportValidFrame (settleUnknown f t)) s
  | .arbiterChoice, s => if s.link.tx.isNone then chooseFrame s else s
  | .endOfTransmission pins, s =>
    match s.link.tx with
    | some f => endTransmission f (presentEncoderPins pins s)
    | none => presentEncoderPins pins s
  | .noticeComposition, s => composeNotice s
  | .acknowledgementTimerExpiry, s => expireAck s
  | _, s => s

/-- How an event's step can be described: quiet, a possible wake, the receiver's, or one of its own. -/
inductive EventSort where
  | quiet
  | waking
  | receiving
  | own

/-- The sort of each event's step. -/
def eventSort : Instr → EventSort
  | .repeatTimerExpiry | .holdTimerExpiry _ | .encoderSample _ _ | .testTimerExpiry | .gapTimerExpiry
  | .noticeComposition | .acknowledgementTimerExpiry => .quiet
  | .coalescingTimerExpiry _ _ | .encoderPinChange _ => .waking
  | .receiveByte _ _ _ | .framingError _ _ | .ack | .requestArrival | .unknownKindFrame => .receiving
  | _ => .own

/-- A quiet event meets the frame of a request's effect: the expiries of repeat, hold, test, gap and acknowledgement
timer, an encoder's sample and a notice's composition. -/
theorem liveStep_quiet {c : Instr} (hc : eventSort c = .quiet) (s : State) : EffectFrame c s (liveStep c s) := by
  cases c
  case repeatTimerExpiry =>
    simp only [liveStep]
    split
    · split
      · refine ⟨?_, rfl, rfl, rfl, rfl, rfl, rfl, rfl, fun _ => ⟨rfl, rfl⟩⟩
        constructor <;> intros <;> and_intros <;> rfl
      · exact .refl _ s
    · exact .refl _ s
  case holdTimerExpiry k =>
    simp only [liveStep]
    split
    · refine ⟨?_, rfl, rfl, rfl, rfl, rfl, rfl, rfl, fun _ => ⟨rfl, rfl⟩⟩
      constructor <;> intros <;> and_intros <;> rfl
    · exact .refl _ s
  case encoderSample ch q =>
    have present : EffectFrame (.encoderSample ch q) s (presentPair ch q s) := by
      refine ⟨presentPair_settings ch q _ s, ?_, ?_, ?_, ?_, ?_, ?_, ?_, ?_⟩ <;> cases ch <;> simp [presentPair]
    simp only [liveStep]
    split
    · refine present.trans ⟨takeSample_settings ch _, ?_, ?_, ?_, ?_, ?_, ?_, ?_, ?_⟩ <;> unfold takeSample <;> simp only <;>
        split <;> simp
    · exact present
  case testTimerExpiry =>
    simp only [liveStep, expireTest]
    split
    · refine ⟨?_, rfl, rfl, rfl, rfl, rfl, rfl, rfl, fun _ => ⟨rfl, rfl⟩⟩
      constructor <;> intros <;> and_intros <;> rfl
    · exact .refl _ s
  case gapTimerExpiry =>
    refine (expireGap_linkSide s).effect ?_ _
    unfold expireGap
    split <;> rfl
  case noticeComposition =>
    obtain ⟨dispatch, scan, lines, pins, keys, display, power⟩ := composeNotice_frame s
    exact ⟨composeNotice_settings s, scan, lines, congrArg InputPins.nrst pins, power, dispatch,
      congrArg KeyBlock.table keys, congrArg DisplayBlock.shown display,
      fun _ => ⟨congrArg DisplayBlock.blinkOn display, congrArg DisplayBlock.blinkTimer display⟩⟩
  case acknowledgementTimerExpiry => exact (expireAck_linkSide s).1.effect (expireAck_linkSide s).2 _
  all_goals cases hc

/-- A coalescing timer's expiry and a change of the encoder pins are quiet, but that they may wake a sleeping part
(R105, R135). -/
theorem liveStep_waking {c : Instr} (hc : eventSort c = .waking) (s : State) :
    ∃ u, EffectFrame c s u ∧
      (liveStep c s = u ∨ u.power.state = .asleep ∧ ∃ cause, liveStep c s = wakePart cause u) := by
  cases c
  case coalescingTimerExpiry ch pins =>
    have present := presentEncoderPins_effect (.coalescingTimerExpiry ch pins) pins s
    have stopped : EffectFrame (.coalescingTimerExpiry ch pins) (presentEncoderPins pins s)
        ((presentEncoderPins pins s).setChannel ch { (presentEncoderPins pins s).channel ch with timer := none }) :=
      ⟨setChannel_settings (fun _ => ⟨rfl, rfl, rfl⟩) fun _ => rfl, by simp, by simp, by simp, by simp, by simp, by simp,
        by simp, fun _ => by simp⟩
    simp only [liveStep, expireCoalescing]
    split
    · refine ⟨_, present.trans stopped, ?_⟩
      split
      next h => exact .inr ⟨by simpa using h.1, .encoder, rfl⟩
      next => exact .inl rfl
    · exact ⟨_, present, .inl rfl⟩
  case encoderPinChange pins =>
    refine ⟨_, presentEncoderPins_effect _ pins s, ?_⟩
    simp only [liveStep]
    split
    next h => exact .inr ⟨h.1, .encoder, rfl⟩
    next => exact .inl rfl
  all_goals cases hc

/-- The receiver's events are quiet, or the arrival of a byte and then an operation of the link side (R138 to R144). -/
theorem liveStep_receiving {c : Instr} (hc : eventSort c = .receiving) (s : State) :
    ∃ u, EffectFrame c s u ∧ (liveStep c s = u ∨ LinkSideFrame (byteArrives u) (liveStep c s)) := by
  have high : ∀ v, EffectFrame c v { v with link.lineHeld := false } := by
    intro v
    have f : LinkSideFrame v { v with link.lineHeld := false } := by constructor <;> rfl
    exact f.effect rfl c
  have held : ∀ sort settle, (∀ f u, LinkSideFrame u (settle f u)) → liveStep c s = completeHeld sort settle s →
      ∃ u, EffectFrame c s u ∧ (liveStep c s = u ∨ LinkSideFrame (byteArrives u) (liveStep c s)) := by
    intro sort settle hs he
    rcases completeHeld_cases sort settle s with e | ⟨f, -, -, e⟩
    · exact ⟨s, .refl c s, .inl (he.trans e)⟩
    · refine ⟨_, high s, .inr ?_⟩
      rw [he, e]
      exact (huntAgain_linkSide _).trans (hs f _)
  cases c
  case receiveByte b sawHigh pins =>
    have present := presentEncoderPins_effect (.receiveByte b sawHigh pins) pins s
    simp only [liveStep]
    split
    · exact ⟨_, present.trans (high _), .inr (takeByte_linkSide b _)⟩
    · exact ⟨_, present, .inl rfl⟩
  case framingError sawHigh pins =>
    refine ⟨_, presentEncoderPins_effect _ pins s, ?_⟩
    simp only [liveStep]
    split
    · exact .inr (takeFramingError_linkSide _)
    · exact .inl rfl
  case ack =>
    exact held (fun k => k == ackKind) _ (fun f u => (settleAck_linkSide f u).trans (reportValidFrame_linkSide _)) rfl
  case requestArrival =>
    exact held isRequestKind (fun f u => { settleArrival f u with link.reportOwed := true })
      (fun f u => (settleArrival_linkSide f u).trans (by constructor <;> rfl)) rfl
  case unknownKindFrame =>
    exact held (fun k => !isKnownKind k) _ (fun f u => (settleUnknown_linkSide f u).trans (reportValidFrame_linkSide _)) rfl
  all_goals cases hc

/-- An event is its step, taken while the part is live. -/
theorem exec_event {c : Instr} (hk : c.requestKind = none) (hreset : ∀ cause spd pins, c ≠ .hardwareReset cause spd pins)
    (hlow : c ≠ .nrstHeldLow) (s : State) : exec c s = whenLive (liveStep c) s := by
  cases c
  case hardwareReset cause spd pins => exact absurd rfl (hreset cause spd pins)
  case nrstHeldLow => exact absurd rfl hlow
  all_goals first | rfl | cases hk

/-- Everything a command can do, sorted by how it is taken: a hardware reset, NRST going low, the step of an event after
an owed report, one of the three requests that wait for something more, any other request, or nothing (log 7, 16, 17).
-/
inductive ExecCases (c : Instr) (s : State) : State → Prop where
  | hardwareReset (cause : ReadyCause) (spd : Bool) (pins : EncoderPins) (hc : c = .hardwareReset cause spd pins) :
      ExecCases c s (hardwareResetEnds cause (presentEncoderPins pins { s with pins.spd := spd, pins.nrst := true }))
  | nrstLow (hc : c = .nrstHeldLow) :
      ExecCases c s { s with pins.nrst := false, link.tx := none, scan.slotRunning := false, lines := releasedLines }
  | event (hk : c.requestKind = none) (live : s.pins.nrst = true) : ExecCases c s (liveStep c (deliverReport s))
  | restart (hc : c = .restart) : ExecCases c s (deliverReport (serve 0x03#8 executeRestart s))
  | setScan (hc : c = .setScan) : ExecCases c s (deliverReport (serve 0x04#8 executeSetScan s))
  | sleep (hc : c = .sleep) : ExecCases c s (deliverReport (serve 0x13#8 executeSleep s))
  | request (t : State) (h : RequestStep c s t) : ExecCases c s t
  | unchanged : ExecCases c s s

theorem exec_cases {c : Instr} {s t : State} (h : exec c s = .next t) : ExecCases c s t := by
  have served : ∀ {f}, whenServing f s = .next t → ExecCases c s (deliverReport (f s)) → ExecCases c s t := by
    intro f hf he
    rcases whenServing_next hf with ⟨-, rfl⟩ | ⟨-, rfl⟩
    · exact he
    · exact .unchanged
  by_cases hreset : ∃ cause spd pins, c = .hardwareReset cause spd pins
  · obtain ⟨cause, spd, pins, rfl⟩ := hreset
    simp only [exec, execHardwareReset] at h
    split at h <;> injection h with h <;> subst h
    · exact .hardwareReset cause spd pins rfl
    · exact .unchanged
  by_cases hlow : c = .nrstHeldLow
  · subst hlow
    injection h with h
    subst h
    exact .nrstLow rfl
  cases hk : c.requestKind with
  | none =>
    rw [exec_event hk (fun cause spd pins hc => hreset ⟨cause, spd, pins, hc⟩) hlow] at h
    rcases whenLive_next h with ⟨hn, rfl⟩ | ⟨-, rfl⟩
    · exact .event hk hn
    · exact .unchanged
  | some kind =>
    by_cases hrestart : c = .restart
    · subst hrestart; exact served h (.restart rfl)
    by_cases hscan : c = .setScan
    · subst hscan; exact served h (.setScan rfl)
    by_cases hsleep : c = .sleep
    · subst hsleep; exact served h (.sleep rfl)
    exact .request t (exec_requestStep hk hrestart hscan hsleep h)

end Sys2Proof.Machine
end

section
/-!
Obligation O60: every command keeps every setting but its own, unless it is a reset.
-/
namespace Sys2Proof.Machine

theorem executeRestart_settings (r : Frame) (s : State) : SettingsKept none s (executeRestart r s) := by
  unfold executeRestart
  split
  · exact (finishRequest_linkSide r _ s).settings none
  · constructor <;> intros <;> and_intros <;> rfl

theorem executeSetScan_settings (r : Frame) (s : State) : SettingsKept none s (executeSetScan r s) := by
  unfold executeSetScan
  split
  · exact (finishRequest_linkSide r _ s).settings none
  · constructor <;> intros <;> and_intros <;> rfl

theorem executeSleep_settings (r : Frame) (s : State) : SettingsKept (some .wakeMask) s (executeSleep r s) := by
  unfold executeSleep
  split
  · exact (finishRequest_linkSide r _ s).settings _
  · split
    · constructor <;> intros <;> first | contradiction | (and_intros <;> rfl)
    · exact (finishRequest_linkSide r _ s).settings _

/-- Serving a request keeps what its execution keeps. -/
theorem serve_settings {x : Option Setting} {kind : Byte} {execute : Frame → State → State} (s : State)
    (h : ∀ r u, SettingsKept x u (execute r u)) : SettingsKept x s (serve kind execute s) := by
  refine serve_keeps (Inv := SettingsKept x s) (.refl x s) fun r rest _ _ _ => ?_
  exact ((dispatch_linkSide { s.dispatch with requests := rest } s).settings x).trans (h r _)

/-- RESTART takes effect at this command: the frame on TXD is its OK reply, whose end is awaited (R162, R163). -/
def RestartEnds (c : Instr) (s : State) : Prop :=
  ∃ pins f, c = .endOfTransmission pins ∧ s.link.tx = some { frame := f, source := .reply } ∧ f.kind = 0x83#8 ∧
    f.payload = [0x00#8] ∧ s.dispatch.phase = .restartWait

/-- Everything the end of a transmission can do with its frame: tell the notice manager, let RESTART take effect, make
the sleep entry check, or nothing (R146). -/
theorem endTransmission_cases (t : TxFrame) (s : State) :
    (t.source = .notice ∧ endTransmission t s = noticeSent t.frame.tag { s with link.tx := none }) ∨
      (t.source = .reply ∧ t.frame.isOkReply 0x03#8 = true ∧ s.dispatch.phase = .restartWait ∧
        endTransmission t s = restartTakesEffect { s with link.tx := none }) ∨
      (t.source = .reply ∧ s.dispatch.phase = .sleepWait ∧
        endTransmission t s = checkSleepEntry { s with link.tx := none }) ∨
      endTransmission t s = { s with link.tx := none } := by
  unfold endTransmission
  cases hs : t.source with
  | notice => exact .inl ⟨rfl, rfl⟩
  | reply =>
    by_cases hr : t.frame.isOkReply 0x03#8 = true ∧ s.dispatch.phase = .restartWait
    · exact .inr (.inl ⟨rfl, hr.1, hr.2, if_pos hr⟩)
    · by_cases hp : t.frame.isOkReply 0x13#8 = true ∧ s.dispatch.phase = .sleepWait
      · exact .inr (.inr (.inl ⟨rfl, hp.2, (if_neg hr).trans (if_pos hp)⟩))
      · exact .inr (.inr (.inr ((if_neg hr).trans (if_neg hp))))

/-- The step of END_OF_TRANSMISSION keeps every setting, or RESTART takes effect, which keeps the link rate (R163). -/
theorem endOfTransmission_settings (pins : EncoderPins) (s : State) :
    SettingsKept none s (liveStep (.endOfTransmission pins) s) ∨
      (RestartEnds (.endOfTransmission pins) s ∧ (liveStep (.endOfTransmission pins) s).link.rate = s.link.rate) := by
  have present : SettingsKept none s (presentEncoderPins pins s) := presentEncoderPins_settings pins none s
  simp only [liveStep]
  split
  next f hf =>
    have idle : SettingsKept none s { presentEncoderPins pins s with link.tx := none } :=
      present.trans (by constructor <;> intros <;> and_intros <;> rfl)
    rcases endTransmission_cases f (presentEncoderPins pins s) with
      ⟨-, e⟩ | ⟨hs, hok, hp, e⟩ | ⟨-, -, e⟩ | e <;> rw [e]
    · exact .inl (idle.trans ((noticeSent_linkSide _ _).1.settings none))
    · refine .inr ⟨⟨pins, f.frame, rfl, by rw [hf, ← hs], ?_⟩, idle.rate⟩
      simpa [Frame.isOkReply, ResultCode.byte, and_assoc] using And.intro hok hp
    · exact .inl (idle.trans (checkSleepEntry_settings _))
    · exact .inl idle
  next => exact .inl present

/-- The step of every other event keeps every setting but the event's own. -/
theorem liveStep_settings (c : Instr) (hc : ∀ pins, c ≠ .endOfTransmission pins) (s : State) :
    SettingsKept (settingOf c) s (liveStep c s) := by
  cases hs : eventSort c with
  | quiet => exact (liveStep_quiet hs s).kept
  | waking =>
    obtain ⟨u, f, e | ⟨-, cause, e⟩⟩ := liveStep_waking hs s <;> rw [e]
    · exact f.kept
    · exact f.kept.trans (wakePart_settings cause _ u)
  | receiving =>
    obtain ⟨u, f, e | g⟩ := liveStep_receiving hs s
    · rw [e]; exact f.kept
    · exact (f.kept.trans (byteArrives_settings _ u)).trans (g.settings _)
  | own =>
    cases c
    case endOfTransmission pins => exact absurd rfl (hc pins)
    case millisecondTick => exact tick_settings s
    case slotStart =>
      simp only [liveStep]
      split
      · exact startSlot_settings s
      · exact .refl _ s
    case slotEnd returns => exact takeReading_settings returns s
    case chordWindowExpiry =>
      simp only [liveStep]
      split
      · exact (expireWindow_frame s).1.settings _
      · exact .refl _ s
    case blinkTimerExpiry => exact expireBlink_settings s
    case wakeSweep returns pins =>
      have present : SettingsKept none s (presentEncoderPins pins (presentReturns returns s)) := by
        constructor <;> intros <;> and_intros <;> rfl
      simp only [liveStep]
      split
      · exact present.trans (sweepOnce_settings _)
      · exact present
    case arbiterChoice =>
      simp only [liveStep]
      split
      · exact (chooseFrame_linkSide s).settings none
      · exact .refl _ s
    all_goals first | exact .refl _ s | cases hs

/-- Every command but a hardware reset keeps every setting but its own, unless it is the end of RESTART's reply, which
keeps the link rate. -/
theorem exec_settings {c : Instr} {s t : State} (h : exec c s = .next t)
    (hreset : ∀ cause spd pins, c ≠ .hardwareReset cause spd pins) :
    SettingsKept (settingOf c) s t ∨ (RestartEnds c s ∧ t.link.rate = s.link.rate) := by
  have reported : ∀ {x u}, SettingsKept x s u → SettingsKept x s (deliverReport u) := fun h =>
    h.trans ((deliverReport_linkSide _).settings _)
  have report := (deliverReport_linkSide s).settings (settingOf c)
  cases exec_cases h with
  | hardwareReset cause spd pins hc => exact absurd hc (hreset cause spd pins)
  | nrstLow hc => subst hc; left; constructor <;> intros <;> and_intros <;> rfl
  | event hk live =>
    by_cases he : ∃ pins, c = .endOfTransmission pins
    · obtain ⟨pins, rfl⟩ := he
      rcases endOfTransmission_settings pins (deliverReport s) with kept | ⟨⟨p, f, hc, hr⟩, rate⟩
      · exact .inl (report.trans kept)
      · obtain ⟨hd, htx⟩ := deliverReport_dispatch s
        rw [hd, htx] at hr
        exact .inr ⟨⟨p, f, hc, hr⟩, rate.trans report.rate⟩
    · exact .inl (report.trans (liveStep_settings c (fun pins hc => he ⟨pins, hc⟩) _))
  | restart hc => subst hc; exact .inl (reported (serve_settings s executeRestart_settings))
  | setScan hc => subst hc; exact .inl (reported (serve_settings s executeSetScan_settings))
  | sleep hc => subst hc; exact .inl (reported (serve_settings s executeSleep_settings))
  | request _ h => exact .inl h.settings
  | unchanged => exact .inl (.refl _ s)

/-- Only its own request changes a setting. -/
theorem settingOf_ne {c : Instr} {x : Setting} (h : ∀ d, settingOf d = some x → c ≠ d) : settingOf c ≠ some x :=
  fun hc => h c hc rfl

/-- Settles O60: every command but a hardware reset keeps every setting but its own (`exec_settings`), unless RESTART
takes effect, which keeps the link rate. -/
theorem settingsChangeOnlyByTheirCommands : Obligations.SettingsChangeOnlyByTheirCommands := by
  unfold Obligations.SettingsChangeOnlyByTheirCommands
  intro c s t h hreset
  rcases exec_settings h hreset with kept | ⟨⟨pins, f, hc, htx, hk, hp, hw⟩, hrate⟩
  · refine ⟨kept.rate, fun _ => ⟨fun hc => kept.map ?_, fun hc => kept.slots ?_, fun hc => kept.timing ?_,
      fun hc => kept.channels ?_, fun hc => kept.buffer ?_, fun hc => kept.banks ?_, fun hc => kept.display ?_,
      fun hc => kept.wakeMask ?_, fun hc => kept.notices ?_, fun hc => kept.config ?_,
      fun ch hc => kept.position ch ?_⟩⟩
    all_goals
      intro hx
      cases c <;> cases hx
      simp at hc
  · exact ⟨hrate, fun h => absurd hw (h pins f hc htx hk hp)⟩

end Sys2Proof.Machine
end

section
/-!
Obligation O58: every step keeps the two lists within their capacities, and the dispatcher's state in agreement with the
pending configuration and the power state. The invariant reads the dispatcher, the pending configuration and the power
state alone, so an operation that leaves these three as they are keeps it.
-/
namespace Sys2Proof.Machine

theorem DispatchSound.congr {s t : State} (h : DispatchSound s) (dispatch : t.dispatch = s.dispatch)
    (waiting : t.scan.pendingScan = s.scan.pendingScan) (power : t.power.state = s.power.state) :
    DispatchSound t where
  requests := by rw [dispatch]; exact h.requests
  replies := by rw [dispatch]; exact h.replies
  scanWait := by rw [dispatch, waiting]; exact h.scanWait
  sleepWait := by rw [dispatch, power]; exact h.sleepWait
  replySpace := by rw [dispatch]; exact h.replySpace
  asleep := by rw [dispatch, power]; exact h.asleep

/-- An operation of the link side that leaves the dispatcher as it is keeps it sound. -/
theorem LinkSideFrame.dispatchSound {s t : State} (f : LinkSideFrame s t) (dispatch : t.dispatch = s.dispatch)
    (h : DispatchSound s) : DispatchSound t :=
  h.congr dispatch (congrArg ScanBlock.pendingScan f.scan) (congrArg PowerBlock.state f.power)

/-- An operation of the key path leaves the dispatcher sound. -/
theorem KeyPathFrame.dispatchSound {s t : State} (f : KeyPathFrame s t) (h : DispatchSound s) : DispatchSound t :=
  h.congr f.dispatch (congrArg ScanBlock.pendingScan f.scan) (congrArg PowerBlock.state f.power)

theorem deliverReport_dispatchSound {s : State} (h : DispatchSound s) : DispatchSound (deliverReport s) :=
  (deliverReport_linkSide s).dispatchSound (deliverReport_dispatch s).1 h

/-! ### A dispatcher with nothing in hand -/

/-- The resting state is IDLE, or WAIT_REPLY_SPACE with a request to wait with (R156, R158). -/
theorem restingPhase_cases (q l : List Frame) :
    restingPhase q l = .idle ∨ (restingPhase q l = .waitReplySpace ∧ q ≠ []) := by
  unfold restingPhase
  split
  next h => exact .inr ⟨rfl, h.1⟩
  next => exact .inl rfl

/-- A dispatcher that rests, in a part that is AWAKE with no configuration pending, is sound with its lists in range. -/
theorem dispatchSound_of_resting {s : State} (power : s.power.state = .awake) (waiting : s.scan.pendingScan = none)
    (requests : s.dispatch.requests.length ≤ 4) (replies : s.dispatch.replies.length ≤ 4)
    (phase : s.dispatch.phase = .idle ∨ (s.dispatch.phase = .waitReplySpace ∧ s.dispatch.requests ≠ [])) :
    DispatchSound s := by
  rcases phase with hp | ⟨hp, hq⟩
  · exact ⟨requests, by simpa [hp] using replies, by simp [hp, waiting], by simp [hp, power], by simp [hp],
      by simp [power]⟩
  · exact ⟨requests, by simpa [hp] using replies, by simp [hp, waiting], by simp [hp, power], fun _ => hq,
      by simp [power]⟩

/-- A dispatcher that may take a request has no configuration pending. -/
theorem DispatchSound.not_waiting {s : State} (h : DispatchSound s)
    (phase : s.dispatch.phase = .idle ∨ s.dispatch.phase = .waitReplySpace ∨ s.dispatch.phase = .sleepWait ∨
      s.dispatch.phase = .restartWait) : s.scan.pendingScan = none := by
  have hs := h.scanWait
  cases hp : s.scan.pendingScan with
  | none => rfl
  | some q =>
    have : s.dispatch.phase = .scanWait := hs.1 (by simp [hp])
    simp [this] at phase

theorem finishRequest_dispatchSound {r : Frame} {p : List Byte} {s : State} (power : s.power.state = .awake)
    (waiting : s.scan.pendingScan = none) (requests : s.dispatch.requests.length ≤ 4)
    (replies : s.dispatch.replies.length < 4) : DispatchSound (finishRequest r p s) := by
  refine dispatchSound_of_resting power waiting requests ?_ (restingPhase_cases _ _)
  simp only [finishRequest_replies, List.length_append, List.length_singleton]
  omega

/-! ### The operations that touch the dispatcher -/

/-- Waking a part that is ASLEEP finds the dispatcher IDLE with no request waiting (R133, R136). -/
theorem wakePart_dispatchSound {s : State} (cause : WakeCause) (h : DispatchSound s) (hs : s.power.state = .asleep) :
    DispatchSound (wakePart cause s) := by
  obtain ⟨idle, empty⟩ := h.asleep hs
  have hl := h.replies
  exact dispatchSound_of_resting rfl (h.not_waiting (.inl idle)) h.requests (by simp only [wakePart_dispatch]; omega)
    (.inl idle)

/-- After a byte's arrival the part is not ASLEEP (R135). -/
theorem byteArrives_dispatchSound {s : State} (h : DispatchSound s) :
    DispatchSound (byteArrives s) ∧ (byteArrives s).power.state ≠ .asleep := by
  unfold byteArrives
  split
  next hp => exact ⟨h, by simp [hp]⟩
  next hp => exact ⟨h.congr rfl rfl rfl, by simp [hp]⟩
  next hp => exact ⟨wakePart_dispatchSound _ h hp, by simp [wakePart]⟩

theorem goodByteArrives_dispatchSound {s : State} (h : DispatchSound s) :
    DispatchSound (goodByteArrives s) ∧ (goodByteArrives s).power.state ≠ .asleep :=
  byteArrives_dispatchSound (s := { s with link.lineHeld := false }) (h.congr rfl rfl rfl)

theorem settleDispatcher_dispatchSound {s : State} (h : DispatchSound s) : DispatchSound (settleDispatcher s) := by
  unfold settleDispatcher
  split
  next hc =>
    have hl := h.replies
    exact dispatchSound_of_resting hc.2 (h.not_waiting (.inl hc.1)) h.requests (by show s.dispatch.replies.length ≤ 4; omega)
      (restingPhase_cases _ _)
  next => exact h

/-- A frame posted in a free place of the reply list, the reserved place counted (R152). -/
theorem postFrame_dispatchSound {f : Frame} {s : State} (h : DispatchSound s) (free : repliesHeld s.dispatch < 4) :
    DispatchSound (postFrame f s) where
  requests := h.requests
  replies := by
    simp only [postFrame_replies, postFrame_phase, List.length_append, List.length_singleton]
    unfold repliesHeld at free
    split at free <;> simp_all
  scanWait := h.scanWait
  sleepWait := h.sleepWait
  replySpace := h.replySpace
  asleep := h.asleep

/-- A request appended to a queue with room, in a part that is not ASLEEP (R154). -/
theorem appendRequest_dispatchSound {f : Frame} {s : State} (h : DispatchSound s) (room : s.dispatch.requests.length < 4)
    (awake : s.power.state ≠ .asleep) :
    DispatchSound { s with dispatch.requests := s.dispatch.requests ++ [f] } where
  requests := by simp only [List.length_append, List.length_singleton]; omega
  replies := h.replies
  scanWait := h.scanWait
  sleepWait := h.sleepWait
  replySpace _ := by simp
  asleep hs := absurd hs awake

theorem settleArrival_dispatchSound {f : Frame} {s : State} (h : DispatchSound s) (awake : s.power.state ≠ .asleep) :
    DispatchSound (settleArrival f s) := by
  refine settleDispatcher_dispatchSound ?_
  split
  next room => exact appendRequest_dispatchSound h room awake
  next =>
    split
    next free =>
      exact postFrame_dispatchSound
        (s := { s with link.counters.queueFull := bump s.link.counters.queueFull }) (h.congr rfl rfl rfl) free
    next => exact h.congr rfl rfl rfl

theorem settleUnknown_dispatchSound {f : Frame} {s : State} (h : DispatchSound s) :
    DispatchSound (settleUnknown f s) := by
  refine settleDispatcher_dispatchSound ?_
  split
  next free => exact postFrame_dispatchSound h free
  next => exact h.congr rfl rfl rfl

theorem settleAck_dispatch (f : Frame) (s : State) : (settleAck f s).dispatch = s.dispatch := by
  unfold settleAck acknowledge
  split
  · split <;> rfl
  · rfl

theorem reportValidFrame_dispatchSound {s : State} (h : DispatchSound s) : DispatchSound (reportValidFrame s) := by
  refine (reportValidFrame_linkSide s).dispatchSound ?_ h
  rcases reportValidFrame_cases s with ⟨-, e⟩ | ⟨-, e⟩ <;> rw [e]

theorem handOn_dispatchSound {f : Frame} {s : State} (h : DispatchSound s) (awake : s.power.state ≠ .asleep) :
    DispatchSound (handOn f s) := by
  rcases handOn_cases f s with ⟨-, e⟩ | ⟨-, -, e⟩ | ⟨-, e⟩ <;> rw [e] <;> apply reportValidFrame_dispatchSound
  · exact settleArrival_dispatchSound h awake
  · exact (settleAck_linkSide f s).dispatchSound (settleAck_dispatch f s) h
  · exact settleUnknown_dispatchSound h

theorem takeByte_dispatchSound {b : Byte} {s : State} (h : DispatchSound s) (awake : s.power.state ≠ .asleep) :
    DispatchSound (takeByte b s) := by
  rcases takeByte_cases b s with ⟨f, e⟩ | ⟨f, e⟩
  · exact f.dispatchSound e h
  · rw [e]; exact handOn_dispatchSound (h.congr rfl rfl rfl) awake

/-- The completion of a frame held keeps the dispatcher sound, if settling the frame in a part that is not ASLEEP does.
-/
theorem completeHeld_dispatchSound {sort : Byte → Bool} {settle : Frame → State → State} {s : State}
    (h : DispatchSound s)
    (hs : ∀ f u, DispatchSound u → u.power.state ≠ .asleep → DispatchSound (settle f u)) :
    DispatchSound (completeHeld sort settle s) := by
  rcases completeHeld_cases sort settle s with e | ⟨f, -, -, e⟩ <;> rw [e]
  · exact h
  · obtain ⟨sound, awake⟩ := goodByteArrives_dispatchSound h
    exact hs f _ (sound.congr rfl rfl rfl) awake

theorem chooseFrame_dispatchSound {s : State} (h : DispatchSound s) : DispatchSound (chooseFrame s) := by
  rcases chooseFrame_cases s with ⟨f, rest, hr, e⟩ | ⟨f, e⟩
  · rw [e]
    have hl := h.replies
    rw [hr, List.length_cons] at hl
    exact ⟨h.requests, by show rest.length + (if s.dispatch.phase = .scanWait then 1 else 0) ≤ 4; omega, h.scanWait,
      h.sleepWait, h.replySpace, h.asleep⟩
  · exact f.dispatchSound e h

/-- Either reset leaves the dispatcher IDLE with both lists empty, AWAKE with nothing pending (R151, R152, R156). -/
theorem dispatchSound_of_reset {s : State} (dispatch : s.dispatch = resetDispatch) (power : s.power = resetPower)
    (waiting : s.scan.pendingScan = none) : DispatchSound s := by
  refine dispatchSound_of_resting ?_ waiting ?_ ?_ (.inl ?_) <;> simp [dispatch, power, resetDispatch, resetPower]

/-- The sleep entry check at the end of the SLEEP reply: the dispatcher is back at its requests, or IDLE with none
(R132, R133). -/
theorem checkSleepEntry_dispatchSound {s : State} (h : DispatchSound s) (phase : s.dispatch.phase = .sleepWait) :
    DispatchSound (checkSleepEntry s) := by
  have waiting := h.not_waiting (.inr (.inr (.inl phase)))
  have hl := h.replies
  unfold checkSleepEntry
  split
  next cause _ =>
    exact dispatchSound_of_resting rfl waiting h.requests (by simp only [abandonSleep_replies]; omega)
      (restingPhase_cases _ _)
  next none =>
    have empty : s.dispatch.requests = [] := by
      unfold State.sleepObstacle at none
      split at none
      · cases none
      next hc =>
        simp only [Bool.or_eq_true, Bool.not_eq_true', not_or, Bool.not_eq_false, List.isEmpty_iff] at hc
        exact hc.1.1
    exact ⟨h.requests, by show s.dispatch.replies.length + 0 ≤ 4; omega, by simp [enterSleep, waiting], by simp [enterSleep],
      by simp [enterSleep], fun _ => ⟨rfl, empty⟩⟩

theorem endTransmission_dispatchSound {f : TxFrame} {s : State} (h : DispatchSound s) :
    DispatchSound (endTransmission f s) := by
  have idle : DispatchSound { s with link.tx := none } := h.congr rfl rfl rfl
  rcases endTransmission_cases f s with ⟨-, e⟩ | ⟨-, -, -, e⟩ | ⟨-, hp, e⟩ | e <;> rw [e]
  · exact (noticeSent_linkSide _ _).1.dispatchSound (noticeSent_linkSide _ _).2 idle
  · exact dispatchSound_of_reset rfl rfl rfl
  · exact checkSleepEntry_dispatchSound idle hp
  · exact idle

/-- The frame boundary posts the reply in the place reserved for it, and frees the dispatcher (R6, R13, R152). -/
theorem settlePending_dispatchSound {s : State} (h : DispatchSound s) : DispatchSound (settlePending s) := by
  rcases settlePending_cases s with ⟨-, e⟩ | ⟨q, hq, settled⟩
  · rw [e]; exact h
  · have phase : s.dispatch.phase = .scanWait := h.scanWait.1 (by simp [hq])
    have replies : s.dispatch.replies.length < 4 := by
      have := h.replies
      simp only [phase, if_true] at this
      omega
    have power : s.power.state = .awake := by
      cases hp : s.power.state with
      | awake => rfl
      | sleepPending => exact absurd (h.sleepWait.1 hp) (by simp [phase])
      | asleep => exact absurd (h.asleep hp).1 (by simp [phase])
    rcases settled with ⟨-, e⟩ | ⟨-, e⟩ <;> rw [e]
    · exact finishRequest_dispatchSound power rfl h.requests replies
    · exact finishRequest_dispatchSound power rfl h.requests replies

/-- Taking contact flags touches the key records alone (R5). -/
theorem updateContacts_frame (p : Position) (lines : List ReturnLine) (s : State) :
    ∃ table, lines.foldl (updateContact p) s = { s with keys.table := table } := by
  induction lines generalizing s with
  | nil => exact ⟨s.keys.table, rfl⟩
  | cons l rest ih =>
    obtain ⟨table, h⟩ := ih (updateContact p s l)
    exact ⟨table, h⟩

theorem sampleEvent_dispatchSound {p : Position} {s : State} (h : DispatchSound s) :
    DispatchSound (sampleEvent p s) := by
  obtain ⟨table, e⟩ := updateContacts_frame p allLines s
  refine (debounceSteps_frame p allLines _).dispatchSound ?_
  rw [e]
  exact h.congr rfl rfl rfl

theorem takeReading_dispatchSound {returns : Byte} {s : State} (h : DispatchSound s) :
    DispatchSound (takeReading returns s) := by
  have present : DispatchSound (presentReturns returns s) := h.congr rfl rfl rfl
  rcases takeReading_cases returns s with ⟨-, -, e⟩ | ⟨p, -, -, -, e⟩ | ⟨-, e⟩ <;> rw [e]
  · have sampled : DispatchSound (if (presentReturns returns s).scan.config.keyScanning then
        sampleEvent (presentReturns returns s).scan.slotIndex (presentReturns returns s) else presentReturns returns s) := by
      split
      · exact sampleEvent_dispatchSound present
      · exact present
    have released := sampled.congr (t := releaseSlot _) rfl rfl rfl
    rw [endSlot_eq]
    split
    · exact settlePending_dispatchSound released
    · exact released
  · exact sampleEvent_dispatchSound (s := { presentReturns returns s with scan.cutSlot := none }) (present.congr rfl rfl rfl)
  · exact h

/-! ### Events -/

theorem EffectFrame.dispatchSound {c : Instr} {s t : State} (f : EffectFrame c s t) (h : DispatchSound s) :
    DispatchSound t :=
  h.congr f.dispatch (congrArg ScanBlock.pendingScan f.scan) (congrArg PowerBlock.state f.power)

theorem liveStep_dispatchSound (c : Instr) {s : State} (h : DispatchSound s) : DispatchSound (liveStep c s) := by
  have present : ∀ pins, DispatchSound (presentEncoderPins pins s) := fun pins => h.congr rfl rfl rfl
  cases hs : eventSort c with
  | quiet => exact (liveStep_quiet hs s).dispatchSound h
  | waking =>
    obtain ⟨u, f, e | ⟨asleep, cause, e⟩⟩ := liveStep_waking hs s <;> rw [e]
    · exact f.dispatchSound h
    · exact wakePart_dispatchSound cause (f.dispatchSound h) asleep
  | receiving =>
    cases c
    case receiveByte b sawHigh pins =>
      simp only [liveStep]
      split
      · obtain ⟨sound, awake⟩ := goodByteArrives_dispatchSound (present pins)
        exact takeByte_dispatchSound sound awake
      · exact present pins
    case framingError sawHigh pins =>
      simp only [liveStep]
      split
      · exact (byteArrives_dispatchSound (present pins)).1.congr rfl rfl rfl
      · exact present pins
    case ack =>
      simp only [liveStep]
      refine completeHeld_dispatchSound h fun f u hu _ => reportValidFrame_dispatchSound ?_
      exact (settleAck_linkSide f u).dispatchSound (settleAck_dispatch f u) hu
    case requestArrival =>
      simp only [liveStep]
      exact completeHeld_dispatchSound h fun f u hu awake =>
        (settleArrival_dispatchSound hu awake).congr rfl rfl rfl
    case unknownKindFrame =>
      simp only [liveStep]
      exact completeHeld_dispatchSound h fun f u hu _ =>
        reportValidFrame_dispatchSound (settleUnknown_dispatchSound hu)
    all_goals cases hs
  | own =>
    cases c
    case slotEnd returns => exact takeReading_dispatchSound h
    case millisecondTick => exact h.congr rfl rfl rfl
    case slotStart =>
      simp only [liveStep]
      split
      · exact h.congr rfl rfl rfl
      · exact h
    case chordWindowExpiry =>
      simp only [liveStep]
      split
      · exact (expireWindow_frame s).1.dispatchSound h
      · exact h
    case blinkTimerExpiry =>
      simp only [liveStep, expireBlink]
      split
      · exact h.congr rfl rfl rfl
      · exact h
    case wakeSweep returns pins =>
      have presented : DispatchSound (presentEncoderPins pins (presentReturns returns s)) := h.congr rfl rfl rfl
      simp only [liveStep]
      split
      next due =>
        unfold sweepOnce settleSweep
        split
        · refine wakePart_dispatchSound _ (presented.congr rfl rfl rfl) ?_
          simp only [State.sweepDue, Bool.and_eq_true, beq_iff_eq] at due
          exact due.1.1
        · exact presented.congr rfl rfl rfl
      next => exact presented
    case arbiterChoice =>
      simp only [liveStep]
      split
      · exact chooseFrame_dispatchSound h
      · exact h
    case endOfTransmission pins =>
      simp only [liveStep]
      split
      · exact endTransmission_dispatchSound (present pins)
      · exact present pins
    all_goals first | exact h | cases hs

/-! ### Requests -/

/-- What holds while the dispatcher takes a request: AWAKE, nothing pending, room in both lists (R156 to R158). -/
theorem DispatchSound.taken {s : State} {r : Frame} {rest : List Frame} (h : DispatchSound s)
    (oldest : s.dispatch.requests = r :: rest) (taken : s.canTake = true) :
    s.power.state = .awake ∧ s.scan.pendingScan = none ∧ rest.length ≤ 4 ∧ s.dispatch.replies.length < 4 := by
  obtain ⟨phase, power, replies⟩ := (canTake_iff s).1 taken
  have requests := h.requests
  rw [oldest, List.length_cons] at requests
  refine ⟨power, h.not_waiting ?_, by omega, replies⟩
  rcases phase with hp | hp
  · exact .inl hp
  · exact .inr (.inl hp)

theorem RequestStep.dispatchSound {c : Instr} {s t : State} (hstep : RequestStep c s t) (h : DispatchSound s) :
    DispatchSound t := by
  cases hstep with
  | heldInReset => exact h
  | notExecuted v presented => exact deliverReport_dispatchSound (presented.dispatchSound h)
  | answered v r rest payload u presented oldest taken effect =>
    obtain ⟨power, waiting, requests, replies⟩ := (presented.dispatchSound h).taken oldest taken
    refine deliverReport_dispatchSound (finishRequest_dispatchSound ?_ ?_ ?_ ?_)
    · rw [effect.power]; exact power
    · rw [effect.scan]; exact waiting
    · rw [effect.dispatch]; exact requests
    · rw [effect.dispatch]; exact replies

/-- Serving a request keeps the dispatcher sound, if executing it does where the dispatcher may take it. -/
theorem serve_dispatchSound {kind : Byte} {execute : Frame → State → State} {s : State} (h : DispatchSound s)
    (hx : ∀ r u, u.power.state = .awake → u.scan.pendingScan = none → u.dispatch.requests.length ≤ 4 →
      u.dispatch.replies.length < 4 → DispatchSound (execute r u)) : DispatchSound (serve kind execute s) := by
  refine serve_keeps (Inv := DispatchSound) h fun r rest hq hc _ => ?_
  obtain ⟨power, waiting, requests, replies⟩ := h.taken hq hc
  exact hx r _ power waiting requests replies

theorem executeRestart_dispatchSound (r : Frame) (u : State) (power : u.power.state = .awake)
    (waiting : u.scan.pendingScan = none) (requests : u.dispatch.requests.length ≤ 4)
    (replies : u.dispatch.replies.length < 4) : DispatchSound (executeRestart r u) := by
  unfold executeRestart
  split
  · exact finishRequest_dispatchSound power waiting requests replies
  · exact ⟨requests, by simp; omega, by simp [waiting], by simp [power], by simp, by simp [power]⟩

theorem executeSetScan_dispatchSound (r : Frame) (u : State) (power : u.power.state = .awake)
    (waiting : u.scan.pendingScan = none) (requests : u.dispatch.requests.length ≤ 4)
    (replies : u.dispatch.replies.length < 4) : DispatchSound (executeSetScan r u) := by
  unfold executeSetScan
  split
  · exact finishRequest_dispatchSound power waiting requests replies
  · exact ⟨requests, by simp; omega, by simp, by simp [power], by simp, by simp [power]⟩

theorem executeSleep_dispatchSound (r : Frame) (u : State) (power : u.power.state = .awake)
    (waiting : u.scan.pendingScan = none) (requests : u.dispatch.requests.length ≤ 4)
    (replies : u.dispatch.replies.length < 4) : DispatchSound (executeSleep r u) := by
  unfold executeSleep
  split
  · exact finishRequest_dispatchSound power waiting requests replies
  · split
    · exact ⟨requests, by simp [acceptSleep]; omega, by simp [acceptSleep, waiting], by simp [acceptSleep],
        by simp [acceptSleep], by simp [acceptSleep]⟩
    · exact finishRequest_dispatchSound power waiting requests replies

theorem exec_dispatchSound (c : Instr) (s t : State) (h : DispatchSound s) (he : exec c s = .next t) :
    DispatchSound t := by
  cases exec_cases he with
  | hardwareReset cause spd pins hc => exact dispatchSound_of_reset rfl rfl rfl
  | nrstLow hc => exact h.congr rfl rfl rfl
  | event hk live => exact liveStep_dispatchSound c (deliverReport_dispatchSound h)
  | restart hc => exact deliverReport_dispatchSound (serve_dispatchSound h executeRestart_dispatchSound)
  | setScan hc => exact deliverReport_dispatchSound (serve_dispatchSound h executeSetScan_dispatchSound)
  | sleep hc => exact deliverReport_dispatchSound (serve_dispatchSound h executeSleep_dispatchSound)
  | request _ hstep => exact hstep.dispatchSound h
  | unchanged => exact h

/-- Settles O58, by `exec_dispatchSound` for every command. -/
theorem stepKeepsTheDispatcherSound : Obligations.StepKeepsTheDispatcherSound := by
  unfold Obligations.StepKeepsTheDispatcherSound
  intro s t h hstep
  exact step_keeps (Inv := DispatchSound) (fun u rest hu => hu.congr rfl rfl rfl) exec_dispatchSound h hstep

end Sys2Proof.Machine
end

section
/-!
Obligation O52: every step keeps the scan engine, the panel lines, the wake sweep and the display in agreement. What the
invariant reads is one frame, so an operation of the link side or of the key path keeps it at once; the scan engine's
own steps, sleep and wake, and the blink settings are taken one by one.
-/
namespace Sys2Proof.Machine

/-- The two states agree in all that `PanelSound` reads. -/
structure PanelFrame (s t : State) : Prop where
  scan       : t.scan = s.scan
  lines      : t.lines = s.lines
  nrst       : t.pins.nrst = s.pins.nrst
  state      : t.power.state = s.power.state
  sweep      : t.power.sweep = s.power.sweep
  shown      : t.display.shown = s.display.shown
  brightness : t.display.brightness = s.display.brightness
  blinkHalf  : t.display.blinkHalf = s.display.blinkHalf
  blinkOn    : t.display.blinkOn = s.display.blinkOn
  blinkTimer : t.display.blinkTimer = s.display.blinkTimer

theorem PanelFrame.trans {s t u : State} (h : PanelFrame s t) (g : PanelFrame t u) : PanelFrame s u :=
  ⟨g.scan.trans h.scan, g.lines.trans h.lines, g.nrst.trans h.nrst, g.state.trans h.state, g.sweep.trans h.sweep,
    g.shown.trans h.shown, g.brightness.trans h.brightness, g.blinkHalf.trans h.blinkHalf, g.blinkOn.trans h.blinkOn,
    g.blinkTimer.trans h.blinkTimer⟩

theorem ScanSound.congr {s t : State} (h : ScanSound s) (e : t.scan = s.scan) : ScanSound t :=
  ⟨e ▸ h.inForce, e ▸ h.waiting, e ▸ h.slot, e ▸ h.cut⟩

theorem PanelSound.congr {s t : State} (h : PanelSound s) (f : PanelFrame s t) : PanelSound t where
  scan := h.scan.congr f.scan
  driven := by rw [f.scan, f.lines, f.state, f.nrst]; exact h.driven
  released := by rw [f.scan, f.lines]; exact h.released
  lit := by rw [f.lines]; exact h.lit
  swept := by rw [f.scan, f.lines]; exact h.swept
  unscanned := by rw [f.scan, f.shown]; exact h.unscanned
  dark := by rw [f.state, f.shown]; exact h.dark
  brightness := by rw [f.brightness]; exact h.brightness
  halfPeriod := by rw [f.blinkHalf]; exact h.halfPeriod
  blinkTimer := by rw [f.blinkTimer, f.blinkHalf]; exact h.blinkTimer
  steady := by rw [f.blinkHalf, f.blinkOn]; exact h.steady
  sweep := by rw [f.sweep, f.state, f.scan]; exact h.sweep

theorem LinkSideFrame.panel {s t : State} (f : LinkSideFrame s t) : PanelFrame s t := by
  constructor <;> simp [f.scan, f.lines, f.pins, f.power, f.display]

theorem KeyPathFrame.panel {s t : State} (f : KeyPathFrame s t) : PanelFrame s t := by
  constructor <;> simp [f.scan, f.lines, f.pins, f.power, f.display]

/-- The effect of a request leaves all this alone, unless it is SET_DISPLAY. -/
theorem EffectFrame.panel {c : Instr} {s t : State} (f : EffectFrame c s t) (hc : c ≠ .setDisplay) :
    PanelFrame s t := by
  have display : settingOf c ≠ some .display := settingOf_ne fun d hd => by
    rintro rfl
    cases c <;> simp [settingOf] at hd hc
  obtain ⟨-, brightness, half⟩ := f.kept.display display
  exact ⟨f.scan, f.lines, f.nrst, congrArg PowerBlock.state f.power, congrArg PowerBlock.sweep f.power, f.shown,
    brightness, half, (f.blink hc).1, (f.blink hc).2⟩

theorem deliverReport_panelSound {s : State} (h : PanelSound s) : PanelSound (deliverReport s) :=
  h.congr (deliverReport_linkSide s).panel

/-! ### Slots -/

/-- All position lines are inactive in 0xFF. -/
theorem inactive_getLsbD (p : Position) : (0xFF#8).getLsbD p.val = true := by
  revert p; decide

theorem tick_panelSound {s : State} (h : PanelSound s) : PanelSound (tick s) :=
  { h with scan := ⟨h.scan.inForce, h.scan.waiting, h.scan.slot, nofun⟩ }

/-- At most sixteen sixteenths of a slot are lit (R116). -/
theorem litSixteenths_le {d : DisplayBlock} (h : d.brightness ≤ 16) (p : Position) : d.litSixteenths p ≤ 16 := by
  unfold DisplayBlock.litSixteenths
  split
  · exact le_refl 16
  · split <;> omega

theorem startSlot_panelSound {s : State} (h : PanelSound s) (awake : s.power.state ≠ .asleep)
    (nrst : s.pins.nrst = true) : PanelSound (startSlot s) where
  scan := ⟨h.scan.inForce, h.scan.waiting, h.scan.slot, nofun⟩
  driven _ := ⟨rfl, awake, nrst⟩
  released := nofun
  lit := litSixteenths_le h.brightness.2 _
  swept p _ := inactive_getLsbD p
  unscanned p hp := by
    have slot : s.scan.slotIndex.val < s.scan.config.positions := h.scan.slot
    have hne : s.scan.slotIndex.val ≠ p.val := by
      have : s.scan.config.positions ≤ p.val := hp
      omega
    have shown : (startSlot s).display.shown[p] = s.display.shown[p] := by simp [startSlot, hne]
    rw [shown]
    exact h.unscanned p hp
  dark ha := absurd ha awake
  brightness := h.brightness
  halfPeriod := h.halfPeriod
  blinkTimer := h.blinkTimer
  steady := h.steady
  sweep := h.sweep

/-- The slot after one in a frame of n slots is one of the n (R1). -/
theorem nextSlot_lt {p : Position} {n : Nat} (h1 : 1 ≤ n) (h8 : n ≤ 8) : (nextSlot p n).val < n := by
  unfold nextSlot
  split
  next hp => rw [Fin.val_add_one_of_lt (by rw [Fin.lt_def, Fin.val_last]; omega)]; exact hp
  next => exact h1

theorem releaseSlot_panelSound {s : State} (h : PanelSound s) (running : s.scan.slotRunning = true) :
    PanelSound (releaseSlot s) where
  scan :=
    { inForce := h.scan.inForce
      waiting := h.scan.waiting
      slot := nextSlot_lt h.scan.inForce.positions.1 h.scan.inForce.positions.2
      cut := fun p hp => absurd (h.scan.cut p hp).1 (by simp [running]) }
  driven := nofun
  released _ := ⟨rfl, rfl⟩
  lit := Nat.zero_le 16
  swept p _ := inactive_getLsbD p
  unscanned := h.unscanned
  dark := h.dark
  brightness := h.brightness
  halfPeriod := h.halfPeriod
  blinkTimer := h.blinkTimer
  steady := h.steady
  sweep := h.sweep

/-- A configuration applied with the lines released: slot 0 is next, and the unscanned positions show 0x0000 (R13,
R117). -/
theorem applyConfig_panelSound {c : ScanConfig} {s : State} (h : PanelSound s) (sound : c.Sound)
    (lines : s.lines = releasedLines) (stopped : s.scan.slotRunning = false) (uncut : s.scan.cutSlot = none)
    (awake : s.power.state ≠ .asleep) : PanelSound (applyConfig c s) where
  scan :=
    { inForce := sound
      waiting := h.scan.waiting
      slot := by simp only [applyConfig]; exact sound.positions.1
      cut := fun p hp => by simp [applyConfig, uncut] at hp }
  driven hr := by simp [applyConfig, stopped] at hr
  released _ := by simp [lines, releasedLines]
  lit := h.lit
  swept p _ := by rw [applyConfig_lines, lines]; exact inactive_getLsbD p
  unscanned p hp := by
    have hp : c.positions ≤ p.val := by simpa using hp
    simp [applyConfig, shownApplied, hp]
  dark ha := absurd ha awake
  brightness := h.brightness
  halfPeriod := h.halfPeriod
  blinkTimer := h.blinkTimer
  steady := h.steady
  sweep := by
    have hs := h.sweep
    simp only [applyConfig_power]
    simp [awake] at hs ⊢
    exact hs

theorem settlePending_panelSound {s : State} (h : PanelSound s) (lines : s.lines = releasedLines)
    (stopped : s.scan.slotRunning = false) (uncut : s.scan.cutSlot = none) (awake : s.power.state ≠ .asleep) :
    PanelSound (settlePending s) := by
  have taken : PanelSound { s with scan.pendingScan := none } :=
    { h with scan := ⟨h.scan.inForce, nofun, h.scan.slot, h.scan.cut⟩ }
  rcases settlePending_cases s with ⟨-, e⟩ | ⟨q, hq, ⟨-, e⟩ | ⟨-, e⟩⟩ <;> rw [e]
  · exact h
  · exact (applyConfig_panelSound taken (h.scan.waiting q hq) lines stopped uncut awake).congr
      (finishRequest_linkSide _ _ _).panel
  · exact taken.congr (finishRequest_linkSide _ _ _).panel

/-- A sample event changes nothing that the panel's agreement reads (R5). -/
theorem sampleEvent_panel (p : Position) (s : State) : PanelFrame s (sampleEvent p s) := by
  obtain ⟨table, e⟩ := updateContacts_frame p allLines s
  have taken : PanelFrame s { s with keys.table := table } := by constructor <;> rfl
  unfold sampleEvent
  rw [e]
  exact taken.trans (debounceSteps_frame p allLines _).panel

theorem endSlot_panelSound {s : State} (h : PanelSound s) (running : s.scan.slotRunning = true)
    (awake : s.power.state ≠ .asleep) : PanelSound (endSlot s) := by
  have sampled : PanelFrame s (if s.scan.config.keyScanning then sampleEvent s.scan.slotIndex s else s) := by
    split
    · exact sampleEvent_panel _ s
    · constructor <;> rfl
  have uncut : s.scan.cutSlot = none := by
    cases hc : s.scan.cutSlot with
    | none => rfl
    | some p => exact absurd (h.scan.cut p hc).1 (by simp [running])
  have released := releaseSlot_panelSound (h.congr sampled) (by rw [sampled.scan]; exact running)
  rw [endSlot_eq]
  split
  · refine settlePending_panelSound released rfl rfl ?_ ?_
    · show (ite _ _ _ : State).scan.cutSlot = none
      rw [sampled.scan]; exact uncut
    · rw [releaseSlot_power, sampled.state]; exact awake
  · exact released

theorem takeReading_panelSound {returns : Byte} {s : State} (h : PanelSound s) :
    PanelSound (takeReading returns s) := by
  have present : PanelSound (presentReturns returns s) := h.congr (by constructor <;> rfl)
  rcases takeReading_cases returns s with ⟨awake, running, e⟩ | ⟨p, -, -, -, e⟩ | ⟨-, e⟩ <;> rw [e]
  · exact endSlot_panelSound present running awake
  · have uncut : PanelSound { presentReturns returns s with scan.cutSlot := none } :=
      { present with scan := ⟨present.scan.inForce, present.scan.waiting, present.scan.slot, nofun⟩ }
    exact uncut.congr (sampleEvent_panel p _)
  · exact h

/-! ### Sleep, wake and the sweep -/

/-- A part that is ASLEEP has no slot in progress, and its lines are released (R133). -/
theorem PanelSound.stopped_of_asleep {s : State} (h : PanelSound s) (hs : s.power.state = .asleep) :
    s.scan.slotRunning = false := by
  cases hr : s.scan.slotRunning with
  | false => rfl
  | true => exact absurd hs (h.driven hr).2.1

theorem wakePart_panelSound {cause : WakeCause} {s : State} (h : PanelSound s) (hs : s.power.state = .asleep) :
    PanelSound (wakePart cause s) where
  scan := ⟨h.scan.inForce, h.scan.waiting, h.scan.inForce.positions.1,
    fun p hp => ⟨rfl, (h.scan.cut p hp).2⟩⟩
  driven := nofun
  released _ := h.released (h.stopped_of_asleep hs)
  lit := h.lit
  swept := h.swept
  unscanned := h.unscanned
  dark := nofun
  brightness := h.brightness
  halfPeriod := h.halfPeriod
  blinkTimer := h.blinkTimer
  steady := h.steady
  sweep := by simp [wakePart]

theorem byteArrives_panelSound {s : State} (h : PanelSound s) : PanelSound (byteArrives s) := by
  unfold byteArrives
  split
  next => exact h
  next => exact h.congr (by constructor <;> rfl)
  next hp => exact wakePart_panelSound h hp

/-- A due sweep drives the scanned lines of a sleeping part with key scanning on, and then wakes it or starts the next
interval (R134). -/
theorem sweepOnce_panelSound {s : State} (h : PanelSound s) (due : s.sweepDue = true) :
    PanelSound (sweepOnce s) := by
  simp only [State.sweepDue, Bool.and_eq_true, beq_iff_eq] at due
  obtain ⟨⟨asleep, scanning⟩, -⟩ := due
  have driven : PanelSound (sweepLines s) :=
    { h with
      scan := h.scan.congr rfl
      driven := fun hr => absurd (h.stopped_of_asleep asleep) (by simpa using hr)
      released := fun _ => ⟨rfl, rfl⟩
      lit := Nat.zero_le 16
      swept := fun p hp => (sweepDrive_getLsbD _ p).trans (decide_eq_true hp) }
  unfold sweepOnce settleSweep
  split
  · exact wakePart_panelSound driven asleep
  · exact { driven with scan := driven.scan.congr rfl, sweep := by simp [startTimer, asleep, scanning] }

theorem enterSleep_panelSound {s : State} (h : PanelSound s) : PanelSound (enterSleep s) where
  scan := ⟨h.scan.inForce, h.scan.waiting, h.scan.slot, nofun⟩
  driven := nofun
  released _ := ⟨rfl, rfl⟩
  lit := Nat.zero_le 16
  swept p _ := inactive_getLsbD p
  unscanned p _ := by simp [enterSleep]
  dark _ p := by simp [enterSleep]
  brightness := h.brightness
  halfPeriod := h.halfPeriod
  blinkTimer := h.blinkTimer
  steady := h.steady
  sweep := by cases hk : s.scan.config.keyScanning <;> simp [enterSleep, startTimer, hk]

/-- A change between AWAKE and SLEEP_PENDING leaves the panel in agreement (R130, R132). -/
theorem PanelSound.of_power {s t : State} (h : PanelSound s) (before : s.power.state ≠ .asleep)
    (after : t.power.state ≠ .asleep) (scan : t.scan = s.scan) (lines : t.lines = s.lines) (pins : t.pins = s.pins)
    (display : t.display = s.display) (sweep : t.power.sweep = s.power.sweep) : PanelSound t where
  scan := h.scan.congr scan
  driven hr := by
    rw [scan] at hr
    rw [scan, lines, pins]
    exact ⟨(h.driven hr).1, after, (h.driven hr).2.2⟩
  released := by rw [scan, lines]; exact h.released
  lit := by rw [lines]; exact h.lit
  swept := by rw [scan, lines]; exact h.swept
  unscanned := by rw [scan, display]; exact h.unscanned
  dark ha := absurd ha after
  brightness := by rw [display]; exact h.brightness
  halfPeriod := by rw [display]; exact h.halfPeriod
  blinkTimer := by rw [display]; exact h.blinkTimer
  steady := by rw [display]; exact h.steady
  sweep := by
    have hs := h.sweep
    rw [sweep]
    simpa [before, after] using hs

theorem checkSleepEntry_panelSound {s : State} (h : PanelSound s) (awake : s.power.state ≠ .asleep) :
    PanelSound (checkSleepEntry s) := by
  unfold checkSleepEntry
  split
  next cause _ => exact h.of_power awake (by simp [abandonSleep]) rfl rfl rfl rfl rfl
  next => exact enterSleep_panelSound h

/-! ### Resets -/

theorem resetConfig_sound : resetConfig.Sound := by constructor <;> decide

/-- Either reset leaves the panel in agreement; the position of a key sample that may still follow is one of the eight
(R10, R163, R164). -/
theorem panelSound_of_reset {s : State} (cut : Option Position) (scan : s.scan = { resetScan with cutSlot := cut })
    (lines : s.lines = releasedLines) (display : s.display = resetDisplay) (power : s.power = resetPower) :
    PanelSound s where
  scan := by
    refine ⟨?_, ?_, ?_, fun p _ => ?_⟩ <;> rw [scan]
    · exact resetConfig_sound
    · nofun
    · exact Nat.zero_lt_succ 7
    · exact ⟨rfl, rfl, p.isLt⟩
  driven hr := by simp [scan, resetScan] at hr
  released _ := by simp [lines, releasedLines]
  lit := by simp [lines, releasedLines]
  swept p _ := by rw [lines]; exact inactive_getLsbD p
  unscanned p _ := by simp [display, resetDisplay]
  dark ha := by simp [power, resetPower] at ha
  brightness := by simp [display, resetDisplay]
  halfPeriod := by simp [display, resetDisplay]
  blinkTimer := by simp [display, resetDisplay]
  steady := by simp [display, resetDisplay]
  sweep := by simp [power, resetPower]

theorem nrstLow_panelSound {s : State} (h : PanelSound s) :
    PanelSound { s with pins.nrst := false, link.tx := none, scan.slotRunning := false, lines := releasedLines } where
  scan := ⟨h.scan.inForce, h.scan.waiting, h.scan.slot, fun p hp => ⟨rfl, (h.scan.cut p hp).2⟩⟩
  driven := nofun
  released _ := ⟨rfl, rfl⟩
  lit := Nat.zero_le 16
  swept p _ := inactive_getLsbD p
  unscanned := h.unscanned
  dark := h.dark
  brightness := h.brightness
  halfPeriod := h.halfPeriod
  blinkTimer := h.blinkTimer
  steady := h.steady
  sweep := h.sweep

/-! ### Events -/

/-- The blink timer that expires is running, so the half-period is not 0 (R112, R113). -/
theorem expireBlink_panelSound {s : State} (h : PanelSound s) : PanelSound (expireBlink s) := by
  unfold expireBlink
  split
  next due =>
    have half : s.display.blinkHalf ≠ 0 := h.blinkTimer.1 (by
      cases ht : s.display.blinkTimer with
      | none => simp [ht] at due
      | some d => rfl)
    exact { h with
      scan := h.scan.congr rfl
      blinkTimer := ⟨fun _ => half, fun _ => rfl⟩
      steady := fun hz => absurd hz half }
  next => exact h

theorem endTransmission_panelSound {f : TxFrame} {s : State} (h : PanelSound s) (hd : DispatchSound s) :
    PanelSound (endTransmission f s) := by
  have idle : PanelSound { s with link.tx := none } := h.congr (by constructor <;> rfl)
  rcases endTransmission_cases f s with ⟨-, e⟩ | ⟨-, -, -, e⟩ | ⟨-, hp, e⟩ | e <;> rw [e]
  · exact idle.congr (noticeSent_linkSide _ _).1.panel
  · exact panelSound_of_reset _ rfl rfl rfl rfl
  · refine checkSleepEntry_panelSound idle ?_
    show s.power.state ≠ .asleep
    rw [hd.sleepWait.2 hp]
    decide
  · exact idle

theorem liveStep_panelSound (c : Instr) {s : State} (h : PanelSound s) (hd : DispatchSound s)
    (nrst : s.pins.nrst = true) : PanelSound (liveStep c s) := by
  have present : ∀ pins, PanelSound (presentEncoderPins pins s) := fun pins => h.congr (by constructor <;> rfl)
  have event : ∀ {o}, eventSort c = o → o ≠ .own → c ≠ .setDisplay := by rintro o hs ho rfl; exact ho hs.symm
  cases hs : eventSort c with
  | quiet => exact h.congr ((liveStep_quiet hs s).panel (event hs nofun))
  | waking =>
    obtain ⟨u, f, e | ⟨asleep, cause, e⟩⟩ := liveStep_waking hs s <;> rw [e]
    · exact h.congr (f.panel (event hs nofun))
    · exact wakePart_panelSound (h.congr (f.panel (event hs nofun))) asleep
  | receiving =>
    obtain ⟨u, f, e | g⟩ := liveStep_receiving hs s
    · rw [e]; exact h.congr (f.panel (event hs nofun))
    · exact (byteArrives_panelSound (h.congr (f.panel (event hs nofun)))).congr g.panel
  | own =>
    cases c
    case millisecondTick => exact tick_panelSound h
    case slotStart =>
      simp only [liveStep]
      split
      next hs =>
        simp only [State.slotMayStart, Bool.and_eq_true, bne_iff_ne] at hs
        exact startSlot_panelSound h hs.1 nrst
      next => exact h
    case slotEnd returns => exact takeReading_panelSound h
    case chordWindowExpiry =>
      simp only [liveStep]
      split
      · exact h.congr (expireWindow_frame s).1.panel
      · exact h
    case blinkTimerExpiry => exact expireBlink_panelSound h
    case wakeSweep returns pins =>
      have presented : PanelSound (presentEncoderPins pins (presentReturns returns s)) :=
        h.congr (by constructor <;> rfl)
      simp only [liveStep]
      split
      next due => exact sweepOnce_panelSound presented due
      next => exact presented
    case arbiterChoice =>
      simp only [liveStep]
      split
      · exact h.congr (chooseFrame_linkSide s).panel
      · exact h
    case endOfTransmission pins =>
      simp only [liveStep]
      split
      · exact endTransmission_panelSound (present pins) (hd.congr rfl rfl rfl)
      · exact present pins
    all_goals first | exact h | cases hs

/-! ### Requests -/

/-- What a range check that passes says of the byte (R176). -/
theorem readRange_some {lo hi n : Nat} {b : Byte} (h : readRange lo hi b = some n) :
    n = b.toNat ∧ lo ≤ n ∧ n ≤ hi := by
  unfold readRange at h
  split at h
  next hb =>
    injection h with h
    subst h
    exact ⟨rfl, hb⟩
  next => cases h

theorem orRange_ok {α : Type} {v : Option α} {a : α} (h : orRange v = .ok a) : v = some a := by
  cases v with
  | none => cases h
  | some b => injection h with h; rw [h]

/-- A configuration read from a payload is in range (R11). -/
theorem readScan_sound {p : List Byte} {c : ScanConfig} (h : readScan p = .ok c) : c.Sound := by
  unfold readScan at h
  split at h
  next n t dp dr l g k =>
    have h := orRange_ok h
    simp only [Option.bind_eq_bind, Option.bind_eq_some_iff, Option.pure_def, Option.some.injEq] at h
    obtain ⟨n', hn, t', ht, dp', hdp, dr', hdr, l', hl, g', -, k', -, rfl⟩ := h
    exact ⟨(readRange_some hn).2, (readRange_some ht).2, (readRange_some hdp).2, (readRange_some hdr).2,
      (readRange_some hl).2⟩
  next => cases h

/-- The settings of a SET_DISPLAY that is accepted are in range (R123). -/
theorem readDisplaySettings_range {p : List Byte} {q : DisplayRequest} (h : readDisplaySettings p = .ok q) :
    1 ≤ q.brightness ∧ q.brightness ≤ 16 ∧ q.blinkHalf ≤ 8 := by
  unfold readDisplaySettings at h
  split at h
  next enable brightness half =>
    have h := orRange_ok h
    simp only [Option.bind_eq_bind, Option.bind_eq_some_iff, Option.pure_def, Option.some.injEq] at h
    obtain ⟨e, -, b, hb, n, hn, rfl⟩ := h
    exact ⟨(readRange_some hb).2.1, (readRange_some hb).2.2, (readRange_some hn).2.2⟩
  next => cases h

/-- SET_DISPLAY keeps the blink timer running exactly while the half-period is not 0, and the phase on at 0 (R124). -/
theorem setDisplay_panelSound {q : DisplayRequest} {s : State} (h : PanelSound s) (bright : 1 ≤ q.brightness)
    (bright' : q.brightness ≤ 16) (half : q.blinkHalf ≤ 8) : PanelSound (setDisplay q s) where
  scan := h.scan.congr rfl
  driven := h.driven
  released := h.released
  lit := h.lit
  swept := h.swept
  unscanned := h.unscanned
  dark := h.dark
  brightness := ⟨bright, bright'⟩
  halfPeriod := half
  blinkTimer := by
    have running := h.blinkTimer
    simp only [setDisplay, blinkAfter]
    split
    next hz => simp [hz]
    next hz =>
      split
      next => simp [startTimer, hz]
      next hb => simp [running, hz, hb]
  steady hz := by
    have hz : q.blinkHalf = 0 := hz
    simp [setDisplay, blinkAfter, hz]
  sweep := h.sweep

theorem RequestStep.panelSound {c : Instr} {s t : State} (hstep : RequestStep c s t) (hc : c ≠ .setDisplay)
    (h : PanelSound s) : PanelSound t := by
  cases hstep with
  | heldInReset => exact h
  | notExecuted v presented => exact deliverReport_panelSound (h.congr (presented.panel hc))
  | answered v r rest payload u presented oldest taken effect =>
    have popped := (h.congr (presented.panel hc)).congr (dispatch_linkSide { v.dispatch with requests := rest } v).panel
    exact deliverReport_panelSound ((popped.congr (effect.panel hc)).congr (finishRequest_linkSide _ _ _).panel)

/-- Serving a request keeps the panel in agreement, if executing it in a part that is AWAKE does. -/
theorem serve_panelSound {kind : Byte} {execute : Frame → State → State} {s : State} (h : PanelSound s)
    (hx : ∀ r u, PanelSound u → u.power.state = .awake → PanelSound (execute r u)) :
    PanelSound (serve kind execute s) := by
  refine serve_keeps (Inv := PanelSound) h fun r rest _ hc _ => ?_
  obtain ⟨-, power, -⟩ := (canTake_iff s).1 hc
  exact hx r _ (h.congr (dispatch_linkSide { s.dispatch with requests := rest } s).panel) power

theorem execSetDisplay_panelSound {s t : State} (h : PanelSound s) (he : exec .setDisplay s = .next t) :
    PanelSound t := by
  have he : execSetDisplay s = .next t := he
  unfold execSetDisplay at he
  rcases whenServing_next he with ⟨-, rfl⟩ | ⟨-, rfl⟩
  · refine deliverReport_panelSound (serve_panelSound h fun r u hu _ => ?_)
    refine answer_keeps (fun p => hu.congr (finishRequest_linkSide r p u).panel) fun q p hq => ?_
    obtain ⟨h1, h2, h3⟩ := readDisplaySettings_range hq
    exact (setDisplay_panelSound hu h1 h2 h3).congr (finishRequest_linkSide r p _).panel
  · exact h

theorem executeRestart_panelSound (r : Frame) (u : State) (h : PanelSound u) : PanelSound (executeRestart r u) := by
  unfold executeRestart
  split
  · exact h.congr (finishRequest_linkSide r _ u).panel
  · exact h.congr (by constructor <;> rfl)

theorem executeSetScan_panelSound (r : Frame) (u : State) (h : PanelSound u) : PanelSound (executeSetScan r u) := by
  unfold executeSetScan
  split
  · exact h.congr (finishRequest_linkSide r _ u).panel
  next c hc =>
    exact { h with
      scan :=
        { inForce := h.scan.inForce
          waiting := fun p hp => by
            injection hp with hp
            subst hp
            exact readScan_sound hc
          slot := h.scan.slot
          cut := h.scan.cut } }

theorem executeSleep_panelSound (r : Frame) (u : State) (h : PanelSound u) (awake : u.power.state = .awake) :
    PanelSound (executeSleep r u) := by
  unfold executeSleep
  split
  · exact h.congr (finishRequest_linkSide r _ u).panel
  · split
    · exact h.of_power (by simp [awake]) (by simp [acceptSleep]) rfl rfl rfl rfl rfl
    · exact h.congr (finishRequest_linkSide r _ u).panel

theorem exec_panelSound (c : Instr) (s t : State) (h : PanelSound s) (hd : DispatchSound s) (he : exec c s = .next t) :
    PanelSound t := by
  by_cases hc : c = .setDisplay
  · subst hc; exact execSetDisplay_panelSound h he
  cases exec_cases he with
  | hardwareReset cause spd pins hc => exact panelSound_of_reset none rfl rfl rfl rfl
  | nrstLow hc => exact nrstLow_panelSound h
  | event hk live =>
    refine liveStep_panelSound c (deliverReport_panelSound h) (deliverReport_dispatchSound hd) ?_
    rw [(deliverReport_linkSide s).pins]; exact live
  | restart hc => exact deliverReport_panelSound (serve_panelSound h fun r u hu _ => executeRestart_panelSound r u hu)
  | setScan hc => exact deliverReport_panelSound (serve_panelSound h fun r u hu _ => executeSetScan_panelSound r u hu)
  | sleep hc => exact deliverReport_panelSound (serve_panelSound h executeSleep_panelSound)
  | request _ hstep => exact hstep.panelSound hc h
  | unchanged => exact h

/-- Settles O52, by `exec_panelSound` for every command; that the part is not ASLEEP in SLEEP_WAIT comes from
`DispatchSound`. -/
theorem stepKeepsThePanelSound : Obligations.StepKeepsThePanelSound := by
  unfold Obligations.StepKeepsThePanelSound
  intro s t h hd hstep
  rcases step_cases hstep with ⟨-, rfl⟩ | ⟨c, rest, -, he⟩
  · exact h
  · exact exec_panelSound c { s with pending := rest } t (h.congr (by constructor <;> rfl)) (hd.congr rfl rfl rfl) he

end Sys2Proof.Machine
end

section
/-!
SUPPORT. What each operation of the key path does to the key state table and to the held list, each said once: a flush
leaves every record, a chord's completion marks held keys, admission and release write one key's record (R27, R43, R57
to R59).
-/
namespace Sys2Proof.Machine

theorem State.setRecord_record_eq (s : State) (k l : KeyIndex) (r : KeyRecord) :
    (s.setRecord k r).record l = if l = k then r else s.record l := by
  split
  next h => subst h; exact State.setRecord_record ..
  next h => exact State.setRecord_record_of_ne _ _ h

theorem State.record_congr {s t : State} (h : t.keys = s.keys) (k : KeyIndex) : t.record k = s.record k := by
  unfold State.record; rw [h]

/-- Marking keys as chorded sets the flag of each of them and changes nothing else of any record (R58). -/
theorem markChorded_record (keys : List KeyIndex) (s : State) (k : KeyIndex) :
    (keys.foldl markChorded s).record k = if k ∈ keys then { s.record k with chorded := true } else s.record k := by
  induction keys generalizing s with
  | nil => rfl
  | cons l rest ih =>
    rw [List.foldl_cons, ih]
    unfold markChorded
    rw [State.setRecord_record_eq]
    by_cases hl : k = l
    · subst hl; simp
    · simp [hl]

/-- The held list is kept or settled: the records are those of before but for the chorded flag of some held keys, and no
key has joined the held list. -/
def HeldSettled (s t : State) : Prop :=
  ∃ marked : List KeyIndex, (∀ k ∈ marked, k ∈ s.heldKeys) ∧
    (∀ k, t.record k = if k ∈ marked then { s.record k with chorded := true } else s.record k) ∧
    ∀ k ∈ t.heldKeys, k ∈ s.heldKeys

/-- Records and held list as they were, or the held list emptied. -/
theorem HeldSettled.of_same {s t : State} (keys : t.keys = s.keys) (held : t.chords.held = s.chords.held ∨ t.chords.held = []) :
    HeldSettled s t := by
  refine ⟨[], by simp, fun k => by simp [State.record_congr keys], fun k hk => ?_⟩
  rcases held with h | h
  · simpa [State.heldKeys, h] using hk
  · simp [State.heldKeys, h] at hk

theorem flushHeld_settled (s : State) : HeldSettled s (flushHeld s) :=
  .of_same (flushHeld_frame s).2.1 (.inr (flushHeld_frame s).2.2.1)

theorem completeChord_settled (slot : SlotIndex) (record : ChordSlot) (s : State) :
    HeldSettled s (completeChord slot record s) := by
  refine ⟨s.heldKeys, fun _ h => h, fun k => ?_, fun k hk => ?_⟩
  · exact markChorded_record s.heldKeys _ k
  · simp [State.heldKeys, (completeChord_frame slot record s).2.1] at hk

theorem decideChord_settled (s : State) : HeldSettled s (decideChord s) := by
  rcases decideChord_cases s with ⟨slot, record, -, h⟩ | h | h <;> rw [h]
  · exact completeChord_settled slot record s
  · exact .of_same rfl (.inl rfl)
  · exact flushHeld_settled s

theorem expireWindow_settled (s : State) : HeldSettled s (expireWindow s) := by
  unfold expireWindow
  split
  · exact completeChord_settled _ _ s
  · exact flushHeld_settled s

/-- What admission does to the records (R43, R57): the key's own becomes DOWN with its admission time, some keys of the
held list, the key among them, may be marked chorded, and no other key joins the held list. -/
theorem admitKey_records (k : KeyIndex) (s : State) :
    ∃ marked : List KeyIndex, (∀ l ∈ marked, l ∈ s.heldKeys ∨ l = k) ∧
      (∀ l, (admitKey k s).record l =
        if l ∈ marked then { (takeIntoDownSet k s).record l with chorded := true } else (takeIntoDownSet k s).record l) ∧
      ∀ l ∈ (admitKey k s).heldKeys, l ∈ s.heldKeys ∨ l = k := by
  unfold admitKey
  simp only
  split
  · obtain ⟨marked, hm, hr, hh⟩ := decideChord_settled
      { takeIntoDownSet k s with
        chords.held := (takeIntoDownSet k s).chords.held ++ [{ key := k, time := (takeIntoDownSet k s).now }]
        chords.window := if (takeIntoDownSet k s).chords.held.isEmpty then
            startTimer (takeIntoDownSet k s).now (takeIntoDownSet k s).repeatHold.chordWindow
          else (takeIntoDownSet k s).chords.window }
    refine ⟨marked, fun l hl => ?_, hr, fun l hl => ?_⟩
    · simpa [State.heldKeys, takeIntoDownSet] using hm l hl
    · simpa [State.heldKeys, takeIntoDownSet] using hh l hl
  · have plain : ∀ u : State, u.keys = (takeIntoDownSet k s).keys → (∀ l ∈ u.heldKeys, l ∈ s.heldKeys) →
        ∃ marked : List KeyIndex, (∀ l ∈ marked, l ∈ s.heldKeys ∨ l = k) ∧
          (∀ l, (handPress k (takeIntoDownSet k s).now u).record l =
            if l ∈ marked then { (takeIntoDownSet k s).record l with chorded := true }
            else (takeIntoDownSet k s).record l) ∧
          ∀ l ∈ (handPress k (takeIntoDownSet k s).now u).heldKeys, l ∈ s.heldKeys ∨ l = k := by
      intro u hu held
      obtain ⟨keys, chords⟩ := handPress_keys k (takeIntoDownSet k s).now u
      refine ⟨[], by simp, fun l => by simp [State.record_congr (keys.trans hu)], fun l hl => .inl (held l ?_)⟩
      simpa [State.heldKeys, chords] using hl
    split
    · exact plain _ rfl fun l hl => hl
    · refine plain _ (flushHeld_frame _).2.1 fun l hl => ?_
      simp [State.heldKeys, (flushHeld_frame (takeIntoDownSet k s)).2.2.1] at hl

theorem takeIntoDownSet_record (k : KeyIndex) (s : State) (l : KeyIndex) :
    (takeIntoDownSet k s).record l =
      if l = k then { s.record k with phase := .down, count := 0, admission := some s.now } else s.record l :=
  State.setRecord_record_eq s k l _

/-- What release does to the records (R27, R28): the key's own becomes UP without its admission time and chorded flag.
-/
theorem releaseKey_record (k : KeyIndex) (s : State) (l : KeyIndex) :
    (releaseKey k s).record l =
      if l = k then { s.record k with phase := .up, count := 0, admission := none, chorded := false } else s.record l := by
  have left : ∀ m, (leaveDownSet k s).record m =
      if m = k then { s.record k with phase := .up, count := 0, admission := none } else s.record m :=
    fun m => State.setRecord_record_eq s k m _
  have flushed : ∀ m, (if (leaveDownSet k s).heldKeys.contains k then flushHeld (leaveDownSet k s)
      else leaveDownSet k s).record m = (leaveDownSet k s).record m := by
    intro m
    split
    · exact State.record_congr (flushHeld_frame _).2.1 m
    · rfl
  have ended : ∀ u : State, (endRepeatHold k u).record l = u.record l := by
    intro u
    unfold endRepeatHold
    simp only
    split <;> rfl
  have reported : ∀ u : State, (reportRelease k u).record l =
      if l = k then { u.record k with chorded := false } else u.record l := by
    intro u
    unfold reportRelease
    split
    · exact State.setRecord_record_eq u k l _
    next hc =>
      have : (if l = k then { u.record k with chorded := false } else u.record l) = u.record l := by
        split
        next h =>
          subst h
          have : (u.record l).chorded = false := by simpa using hc
          rw [← this]
        next => rfl
      rw [this]
      split <;> rfl
  unfold releaseKey
  simp only
  rw [ended, reported, flushed, flushed, left, left]
  by_cases h : l = k <;> simp [h]

/-- After a release the key is not in the held list, and no other key has joined it (R61). -/
theorem releaseKey_held (k : KeyIndex) (s : State) (l : KeyIndex) (h : l ∈ (releaseKey k s).heldKeys) :
    l ∈ s.heldKeys ∧ l ≠ k := by
  have ended : ∀ u : State, (endRepeatHold k (reportRelease k u)).heldKeys = u.heldKeys := by
    intro u
    unfold endRepeatHold reportRelease
    simp only
    split <;> split <;> first | rfl | (split <;> rfl)
  unfold releaseKey at h
  simp only [ended] at h
  split at h
  · simp [State.heldKeys, (flushHeld_frame (leaveDownSet k s)).2.2.1] at h
  next hk =>
    have held : (leaveDownSet k s).heldKeys = s.heldKeys := rfl
    rw [held] at h hk
    refine ⟨h, ?_⟩
    rintro rfl
    exact hk (by simpa using h)

/-- A debounce step leaves every other key's record as it is, but that a chord's completion may mark it chorded (R5,
R58). -/
theorem debounceStep_record_of_ne {k l : KeyIndex} (s : State) (h : l ≠ k) :
    { (debounceStep k s).record l with chorded := false } = { s.record l with chorded := false } := by
  rcases debounceStep_cases k s with e | ⟨phase, count, e⟩ | ⟨-, e⟩ | ⟨-, -, e⟩ | ⟨-, -, e⟩ <;> rw [e]
  · unfold setPhase
    rw [State.setRecord_record_of_ne _ _ h]
  · rw [State.setRecord_record_of_ne _ _ h]
  · unfold pressAdmission
    split
    · exact congrArg (fun r : KeyRecord => { r with chorded := false }) (State.setRecord_record_of_ne s _ h)
    · split
      · exact congrArg (fun r : KeyRecord => { r with chorded := false }) (State.setRecord_record_of_ne s _ h)
      · obtain ⟨marked, -, hr, -⟩ := admitKey_records k s
        rw [hr, takeIntoDownSet_record, if_neg h]
        split <;> rfl
  · rw [releaseKey_record, if_neg h]

end Sys2Proof.Machine
end

section
/-!
Obligation O53: every step keeps every key record shaped as its state asks. A record's shape is a predicate of that
record alone. Through a debounce step it leans on one thing more: the keys of the held list are DOWN or BREAKING, so
that a chord's completion marks no other key.
-/
namespace Sys2Proof.Machine

/-! ### The shape of one record -/

/-- Everything `RecordsSound` says of the record of key `k`, under configuration `c` and the key's enable flag. -/
structure KeyRecord.Shaped (c : ScanConfig) (enabled : Bool) (k : KeyIndex) (r : KeyRecord) : Prop where
  count     : r.countSound c
  reason    : r.blockReason.isSome = true ↔ r.phase = .blocked
  admission : r.admission.isSome = true ↔ r.isHeldDown = true
  chorded   : r.chorded = true → r.isHeldDown = true
  disabled  : enabled = false → r.phase = .up
  unscanned : c.positions ≤ k.val / 8 ∨ c.keyScanning = false → r.phase = .up ∧ r.contact = false

theorem recordsSound_iff (s : State) :
    RecordsSound s ↔ ∀ k, (s.record k).Shaped s.scan.config (s.mapEntry k).enabled k :=
  ⟨fun h k => ⟨h.count k, h.reason k, h.admission k, h.chorded k, h.disabled k, h.unscanned k⟩,
    fun h => ⟨fun k => (h k).count, fun k => (h k).reason, fun k => (h k).admission, fun k => (h k).chorded,
      fun k => (h k).disabled, fun k => (h k).unscanned⟩⟩

/-- An UP record with nothing else set is shaped, whatever the configuration (R18, R31). -/
theorem upRecord_shaped (c : ScanConfig) (enabled : Bool) (k : KeyIndex) : upRecord.Shaped c enabled k := by
  constructor <;> simp [upRecord, KeyRecord.countSound, KeyRecord.isHeldDown]

/-- A key held down may be marked chorded (R58). -/
theorem KeyRecord.Shaped.chord {c : ScanConfig} {enabled : Bool} {k : KeyIndex} {r : KeyRecord}
    (h : r.Shaped c enabled k) (down : r.isHeldDown = true) : { r with chorded := true }.Shaped c enabled k :=
  ⟨h.count, h.reason, h.admission, fun _ => down, h.disabled, h.unscanned⟩

/-- The invariant of the sample event: every record is shaped, and every key of the held list is held down (R18, R54).
-/
structure RecordsReady (s : State) : Prop where
  shaped : ∀ k, (s.record k).Shaped s.scan.config (s.mapEntry k).enabled k
  held   : ∀ k ∈ s.heldKeys, (s.record k).isHeldDown = true

theorem KeysSound.ready {s : State} (h : KeysSound s) : RecordsReady s where
  shaped := (recordsSound_iff s).1 h.records
  held k hk := (h.downSet.exactly k).1 (h.chords.order.subset hk)

theorem RecordsReady.sound {s : State} (h : RecordsReady s) : RecordsSound s := (recordsSound_iff s).2 h.shaped

theorem RecordsSound.congr {s t : State} (h : RecordsSound s) (table : t.keys.table = s.keys.table)
    (map : t.keys.map = s.keys.map) (config : t.scan.config = s.scan.config) : RecordsSound t := by
  have record : ∀ k, t.record k = s.record k := fun k => by unfold State.record; rw [table]
  have entry : ∀ k, t.mapEntry k = s.mapEntry k := fun k => by unfold State.mapEntry; rw [map]
  refine (recordsSound_iff t).2 fun k => ?_
  rw [record, entry, config]
  exact (recordsSound_iff s).1 h k

theorem RecordsReady.congr {s t : State} (h : RecordsReady s) (keys : t.keys = s.keys) (chords : t.chords = s.chords)
    (config : t.scan.config = s.scan.config) : RecordsReady t where
  shaped := (recordsSound_iff t).1 (h.sound.congr (by rw [keys]) (by rw [keys]) config)
  held k hk := by
    rw [State.record_congr keys]
    exact h.held k (by simpa [State.heldKeys, chords] using hk)

theorem mapEntry_congr {s t : State} (h : t.keys.map = s.keys.map) (k : KeyIndex) :
    t.mapEntry k = s.mapEntry k := by
  unfold State.mapEntry; rw [h]

/-! ### The operations of the key path -/

/-- One record replaced by a shaped one, with a key path operation around it: the key is held down as before, or it has
left the held list. -/
theorem RecordsReady.write {s t : State} {k : KeyIndex} {r : KeyRecord} (h : RecordsReady s) (f : KeyPathFrame s t)
    (record : ∀ l, t.record l = if l = k then r else s.record l)
    (held : ∀ l ∈ t.heldKeys, l ∈ s.heldKeys ∧ (l = k → r.isHeldDown = true))
    (shaped : r.Shaped s.scan.config (s.mapEntry k).enabled k) : RecordsReady t where
  shaped l := by
    rw [record, f.scan, mapEntry_congr f.map]
    split
    next hl => subst hl; exact shaped
    next => exact h.shaped l
  held l hl := by
    obtain ⟨before, down⟩ := held l hl
    rw [record]
    split
    next e => exact down e
    next => exact h.held l before

/-- The held list settled: keys that were held may have been marked chorded (R57 to R59). -/
theorem RecordsReady.settled {s t : State} (h : RecordsReady s) (f : KeyPathFrame s t) (hs : HeldSettled s t) :
    RecordsReady t := by
  obtain ⟨marked, hm, hr, hh⟩ := hs
  refine ⟨fun k => ?_, fun k hk => ?_⟩
  · rw [hr, f.scan, mapEntry_congr f.map]
    split
    next hk => exact (h.shaped k).chord (h.held k (hm k hk))
    next => exact h.shaped k
  · have down := h.held k (hh k hk)
    rw [hr]
    split
    · exact down
    · exact down

/-- A new state and count for a key that stays as held down, as blocked, and as scanned as it was. -/
theorem setPhase_ready {k : KeyIndex} {phase : KeyPhase} {count : Nat} {s : State} (h : RecordsReady s)
    (scanned : ¬ (s.scan.config.positions ≤ k.val / 8 ∨ s.scan.config.keyScanning = false))
    (hc : ({ s.record k with phase := phase, count := count } : KeyRecord).countSound s.scan.config)
    (blocked : phase = .blocked ↔ (s.record k).phase = .blocked)
    (down : ({ s.record k with phase := phase, count := count } : KeyRecord).isHeldDown = (s.record k).isHeldDown)
    (enabled : (s.mapEntry k).enabled = false → phase = .up) : RecordsReady (setPhase k phase count s) := by
  have old := h.shaped k
  refine h.write (setPhase_frame k phase count s) (fun l => State.setRecord_record_eq s k l _)
    (fun l hl => ⟨hl, fun e => by subst e; rw [down]; exact h.held l hl⟩) ?_
  exact
    { count := hc
      reason := old.reason.trans blocked.symm
      admission := by rw [down]; exact old.admission
      chorded := by rw [down]; exact old.chorded
      disabled := enabled
      unscanned := fun hu => absurd hu scanned }

/-- A refused press leaves the key BLOCKED with its reason (R39, R42). -/
theorem blockKey_ready {k : KeyIndex} {reason : BlockReason} {s : State} (h : RecordsReady s)
    (scanned : ¬ (s.scan.config.positions ≤ k.val / 8 ∨ s.scan.config.keyScanning = false))
    (dr : 1 ≤ s.scan.config.dr) (enabled : (s.mapEntry k).enabled = true) (up : (s.record k).isHeldDown = false) :
    RecordsReady (blockKey k reason s) := by
  have old := h.shaped k
  refine h.write (blockKey_frame k reason s) (fun l => State.setRecord_record_eq s k l _)
    (fun l hl => ⟨hl, fun e => ?_⟩) ?_
  · subst e
    have down := h.held l hl
    rw [up] at down
    cases down
  · have plain : (s.record k).admission.isSome = true ↔ False := by rw [old.admission, up]; simp
    exact
      { count := by simp only [KeyRecord.countSound]; omega
        reason := by simp
        admission := by simpa [KeyRecord.isHeldDown] using plain
        chorded := fun hc => by have down := old.chorded hc; rw [up] at down; cases down
        disabled := fun he => by rw [enabled] at he; cases he
        unscanned := fun hu => absurd hu scanned }

/-- An admitted press leaves the key DOWN with its admission time, and perhaps a chord complete (R43, R57). -/
theorem admitKey_ready {k : KeyIndex} {s : State} (h : RecordsReady s)
    (scanned : ¬ (s.scan.config.positions ≤ k.val / 8 ∨ s.scan.config.keyScanning = false))
    (enabled : (s.mapEntry k).enabled = true) (free : (s.record k).phase ≠ .blocked) :
    RecordsReady (admitKey k s) := by
  obtain ⟨marked, hm, hr, hh⟩ := admitKey_records k s
  have f := admitKey_frame k s
  have down : ∀ l, l ∈ s.heldKeys ∨ l = k → ((takeIntoDownSet k s).record l).isHeldDown = true := by
    intro l hl
    rw [takeIntoDownSet_record]
    split
    · rfl
    next hne => exact h.held l (hl.resolve_right hne)
  have taken : ∀ l, ((takeIntoDownSet k s).record l).Shaped s.scan.config (s.mapEntry l).enabled l := by
    intro l
    rw [takeIntoDownSet_record]
    split
    next e =>
      subst e
      exact
        { count := rfl
          reason := by simpa [free] using (h.shaped l).reason
          admission := by simp [KeyRecord.isHeldDown]
          chorded := fun _ => rfl
          disabled := fun he => by rw [enabled] at he; cases he
          unscanned := fun hu => absurd hu scanned }
    next => exact h.shaped l
  refine ⟨fun l => ?_, fun l hl => ?_⟩
  · rw [hr, f.scan, mapEntry_congr f.map]
    split
    next hl => exact (taken l).chord (down l (hm l hl))
    next => exact taken l
  · have hd := down l (hh l hl)
    rw [hr]
    split
    · exact hd
    · exact hd

/-- Press admission of an enabled key of a scanned position that is neither held down nor blocked (R36, R40). -/
theorem pressAdmission_ready {k : KeyIndex} {s : State} (h : RecordsReady s)
    (scanned : ¬ (s.scan.config.positions ≤ k.val / 8 ∨ s.scan.config.keyScanning = false))
    (dr : 1 ≤ s.scan.config.dr) (enabled : (s.mapEntry k).enabled = true) (up : (s.record k).isHeldDown = false)
    (free : (s.record k).phase ≠ .blocked) : RecordsReady (pressAdmission k s) := by
  unfold pressAdmission
  split
  · exact (blockKey_ready h scanned dr enabled up).congr rfl rfl rfl
  · split
    · exact (blockKey_ready h scanned dr enabled up).congr rfl rfl rfl
    · exact admitKey_ready h scanned enabled free

/-- Release confirmation leaves the key UP, out of the held list (R27, R61). -/
theorem releaseKey_ready {k : KeyIndex} {s : State} (h : RecordsReady s)
    (scanned : ¬ (s.scan.config.positions ≤ k.val / 8 ∨ s.scan.config.keyScanning = false))
    (free : (s.record k).phase ≠ .blocked) : RecordsReady (releaseKey k s) := by
  refine h.write (releaseKey_frame k s) (releaseKey_record k s)
    (fun l hl => ⟨(releaseKey_held k s l hl).1, fun e => absurd e (releaseKey_held k s l hl).2⟩) ?_
  exact
    { count := rfl
      reason := by simpa [free] using (h.shaped k).reason
      admission := by simp [KeyRecord.isHeldDown]
      chorded := nofun
      disabled := fun _ => rfl
      unscanned := fun hu => absurd hu scanned }

/-- The silent exit from BLOCKED (R24). -/
theorem blockedExit_ready {k : KeyIndex} {s : State} (h : RecordsReady s)
    (scanned : ¬ (s.scan.config.positions ≤ k.val / 8 ∨ s.scan.config.keyScanning = false))
    (blocked : (s.record k).phase = .blocked) :
    RecordsReady (s.setRecord k { s.record k with phase := .up, count := 0, blockReason := none }) := by
  have old := h.shaped k
  have up : (s.record k).isHeldDown = false := by simp [KeyRecord.isHeldDown, blocked]
  refine h.write (KeyPathFrame.setRecord s k _ rfl) (fun l => State.setRecord_record_eq s k l _)
    (fun l hl => ⟨hl, fun e => ?_⟩) ?_
  · subst e
    have down := h.held l hl
    rw [up] at down
    cases down
  · have plain : (s.record k).admission.isSome = true ↔ False := by rw [old.admission, up]; simp
    exact
      { count := rfl
        reason := by simp
        admission := by simpa [KeyRecord.isHeldDown] using plain
        chorded := fun hc => by have down := old.chorded hc; rw [up] at down; cases down
        disabled := fun _ => rfl
        unscanned := fun hu => absurd hu scanned }

/-- The debounce step of a key of a scanned position keeps the invariant (R19 to R25). -/
theorem debounceStep_ready {k : KeyIndex} {s : State} (h : RecordsReady s) (config : s.scan.config.Sound)
    (scanned : ¬ (s.scan.config.positions ≤ k.val / 8 ∨ s.scan.config.keyScanning = false)) :
    RecordsReady (debounceStep k s) := by
  have dp := config.dp.1
  have dr := config.dr.1
  have old := h.shaped k
  have closed : ∀ n, 1 ≤ n → n ≤ s.scan.config.dp → (s.mapEntry k).enabled = true →
      ((s.record k).phase = .up ∨ (s.record k).phase = .making) → RecordsReady (closedRun k n s) := by
    intro n h1 hn enabled phase
    have up : (s.record k).isHeldDown = false := by rcases phase with hp | hp <;> simp [KeyRecord.isHeldDown, hp]
    have free : (s.record k).phase ≠ .blocked := by rcases phase with hp | hp <;> simp [hp]
    unfold closedRun
    split
    · exact pressAdmission_ready h scanned dr enabled up free
    next hne =>
      exact setPhase_ready h scanned (by simp only [KeyRecord.countSound]; omega) (by simp [free])
        (by rw [up]; rfl) (by simp [enabled])
  have opened : ∀ n, 1 ≤ n → n ≤ s.scan.config.dr → (s.mapEntry k).enabled = true →
      ((s.record k).phase = .down ∨ (s.record k).phase = .breaking) → RecordsReady (openRun k n s) := by
    intro n h1 hn enabled phase
    have down : (s.record k).isHeldDown = true := by rcases phase with hp | hp <;> simp [KeyRecord.isHeldDown, hp]
    have free : (s.record k).phase ≠ .blocked := by rcases phase with hp | hp <;> simp [hp]
    unfold openRun
    split
    · exact releaseKey_ready h scanned free
    next hne =>
      exact setPhase_ready h scanned (by simp only [KeyRecord.countSound]; omega) (by simp [free])
        (by rw [down]; rfl) (by simp [enabled])
  have count := old.count
  unfold KeyRecord.countSound at count
  unfold debounceStep
  simp only
  split
  next blocked =>
    have exempt : (s.mapEntry k).enabled ≠ false := fun he => by rw [old.disabled he] at blocked; cases blocked
    simp only [blocked] at count
    have stay : ∀ n, n < s.scan.config.dr → RecordsReady (setPhase k .blocked n s) := fun n hn =>
      setPhase_ready h scanned hn (by simp [blocked]) (by simp [KeyRecord.isHeldDown, blocked]) fun he => absurd he exempt
    split
    · exact stay 0 dr
    · unfold blockedRun
      split
      · exact blockedExit_ready h scanned blocked
      · exact stay _ (by omega)
  next free =>
    split
    · exact h
    next hen =>
      have enabled : (s.mapEntry k).enabled = true := by simpa using hen
      split
      next hp =>
        split
        · exact closed 1 (le_refl 1) dp enabled (.inl hp)
        · exact setPhase_ready h scanned rfl (by simp [hp]) (by simp [KeyRecord.isHeldDown, hp]) fun _ => rfl
      next hp =>
        simp only [hp] at count
        split
        · exact closed _ (by omega) (by omega) enabled (.inr hp)
        · exact setPhase_ready h scanned rfl (by simp [hp]) (by simp only [KeyRecord.isHeldDown, hp]; rfl) fun _ => rfl
      next hp =>
        split
        · exact setPhase_ready h scanned rfl (by simp [hp]) (by simp [KeyRecord.isHeldDown, hp]) (by simp [enabled])
        · exact opened 1 (le_refl 1) dr enabled (.inl hp)
      next hp =>
        simp only [hp] at count
        split
        · exact setPhase_ready h scanned rfl (by simp [hp]) (by simp [KeyRecord.isHeldDown, hp]) (by simp [enabled])
        · exact opened _ (by omega) (by omega) enabled (.inr hp)
      next hp => exact absurd hp free

/-! ### The sample event -/

theorem keyAt_div (p : Position) (l : ReturnLine) : (keyAt p l).val / 8 = p.val := by
  simp only [keyAt]; omega

/-- Debounce steps of keys of a scanned position, in a row. -/
theorem debounceSteps_ready {p : Position} (lines : List ReturnLine) {s : State} (h : RecordsReady s)
    (config : s.scan.config.Sound) (position : p.val < s.scan.config.positions)
    (scanning : s.scan.config.keyScanning = true) :
    RecordsReady (lines.foldl (fun s l => debounceStep (keyAt p l) s) s) := by
  induction lines generalizing s with
  | nil => exact h
  | cons l rest ih =>
    have scan := (debounceStep_frame (keyAt p l) s).scan
    have scanned : ¬ (s.scan.config.positions ≤ (keyAt p l).val / 8 ∨ s.scan.config.keyScanning = false) := by
      rw [keyAt_div, scanning]
      simp only [Bool.true_eq_false, or_false]
      omega
    refine ih (debounceStep_ready h config scanned) ?_ ?_ ?_ <;> rw [scan]
    · exact config
    · exact position
    · exact scanning

/-- The sample event of a scanned position, with key scanning on, keeps the invariant (R5, R7). -/
theorem sampleEvent_ready {p : Position} {s : State} (h : RecordsReady s) (config : s.scan.config.Sound)
    (position : p.val < s.scan.config.positions) (scanning : s.scan.config.keyScanning = true) :
    RecordsReady (sampleEvent p s) := by
  obtain ⟨table, e⟩ := updateContacts_frame p allLines s
  have record := fun k => updateContacts_record p allLines s k
  have taken : RecordsReady (allLines.foldl (updateContact p) s) := by
    rw [e] at record ⊢
    refine ⟨fun k => ?_, fun k hk => ?_⟩
    · obtain ⟨same, other⟩ := record k
      have old := h.shaped k
      by_cases hk : keyPosition k = p
      · rw [same]
        refine ⟨old.count, old.reason, old.admission, old.chorded, old.disabled, fun hu => ?_⟩
        have hpos : k.val / 8 = p.val := congrArg Fin.val hk
        rcases hu with hu | hu
        · have : s.scan.config.positions ≤ k.val / 8 := hu
          omega
        · have : s.scan.config.keyScanning = false := hu
          rw [scanning] at this
          cases this
      · rw [other hk]; exact old
    · rw [(record k).1]; exact h.held k hk
  unfold sampleEvent
  rw [e] at taken ⊢
  exact debounceSteps_ready allLines taken config position scanning

end Sys2Proof.Machine
end

section
/-!
Obligation O53, from the sample event to every step. Besides it, only the chord window's expiry, an applied
configuration, SET_KEYMAP, wake and the resets touch a record, a key map entry or the configuration.
-/
namespace Sys2Proof.Machine

theorem allUp_iff (s : State) : s.allUp = true ↔ ∀ k, (s.record k).phase = .up := by
  simp [State.allUp, allKeys]

/-- An UP record stays shaped under any configuration and enable flag, if its flag is open where the key is not scanned
(R7, R14). -/
theorem KeyRecord.Shaped.reconfigure {c c' : ScanConfig} {enabled enabled' : Bool} {k : KeyIndex} {r : KeyRecord}
    (h : r.Shaped c enabled k) (up : r.phase = .up) (contact : Bool)
    (scanned : c'.positions ≤ k.val / 8 ∨ c'.keyScanning = false → contact = false) :
    { r with contact := contact }.Shaped c' enabled' k where
  count := by simpa [KeyRecord.countSound, up] using h.count
  reason := h.reason
  admission := h.admission
  chorded := h.chorded
  disabled _ := up
  unscanned hu := ⟨up, scanned hu⟩

/-- A configuration applied with every key UP: the flags of the keys that it does not scan are open (R14). -/
theorem applyConfig_recordsSound {c : ScanConfig} {s : State} (h : RecordsSound s) (up : s.allUp = true) :
    RecordsSound (applyConfig c s) := by
  have up := (allUp_iff s).1 up
  have record : ∀ k, (applyConfig c s).record k =
      if !c.keyScanning || (c.positions < s.scan.config.positions && c.positions ≤ k.val / 8) then
        openContact (s.record k) else s.record k := by
    intro k
    simp [applyConfig, State.record, contactsApplied]
  refine (recordsSound_iff _).2 fun k => ?_
  have old := (recordsSound_iff s).1 h k
  rw [record, applyConfig_config]
  split
  · exact old.reconfigure (up k) false fun _ => rfl
  next hn =>
    refine old.reconfigure (up k) (s.record k).contact fun hu => ?_
    simp only [Bool.or_eq_true, Bool.not_eq_true', Bool.and_eq_true, decide_eq_true_eq, not_or, not_and,
      Bool.not_eq_false] at hn
    rcases hu with hu | hu
    · exact (old.unscanned (.inl (by by_contra hlt; exact hn.2 (by omega) hu))).2
    · rw [hn.1] at hu; cases hu

theorem settlePending_recordsSound {s : State} (h : RecordsSound s) : RecordsSound (settlePending s) := by
  have taken : RecordsSound { s with scan.pendingScan := none } := h.congr rfl rfl rfl
  rcases settlePending_cases s with ⟨-, e⟩ | ⟨q, -, ⟨up, e⟩ | ⟨-, e⟩⟩ <;> rw [e]
  · exact h
  · exact (applyConfig_recordsSound taken up).congr rfl rfl rfl
  · exact taken.congr rfl rfl rfl

theorem endSlot_recordsSound {s : State} (h : RecordsReady s) (scan : ScanSound s) : RecordsSound (endSlot s) := by
  have sampled : RecordsSound (if s.scan.config.keyScanning then sampleEvent s.scan.slotIndex s else s) := by
    split
    next scanning => exact (sampleEvent_ready h scan.inForce scan.slot scanning).sound
    next => exact h.sound
  have released := sampled.congr (t := releaseSlot _) rfl rfl rfl
  rw [endSlot_eq]
  split
  · exact settlePending_recordsSound released
  · exact released

theorem takeReading_recordsSound {returns : Byte} {s : State} (h : RecordsReady s) (scan : ScanSound s) :
    RecordsSound (takeReading returns s) := by
  have present : RecordsReady (presentReturns returns s) := h.congr rfl rfl rfl
  rcases takeReading_cases returns s with ⟨-, -, e⟩ | ⟨p, -, -, hc, e⟩ | ⟨-, e⟩ <;> rw [e]
  · exact endSlot_recordsSound present (scan.congr rfl)
  · obtain ⟨-, scanning, position⟩ := scan.cut p hc
    exact (sampleEvent_ready (s := { presentReturns returns s with scan.cutSlot := none }) (present.congr rfl rfl rfl)
      scan.inForce position scanning).sound
  · exact h.sound

/-! ### Wake, resets and the link side -/

/-- A key state table of UP records is sound under every key map and configuration (R18, R31). -/
theorem recordsSound_of_upRecords {s : State} (h : s.keys.table = Vector.replicate 64 upRecord) :
    RecordsSound s := by
  refine (recordsSound_iff s).2 fun k => ?_
  have : s.record k = upRecord := by simp [State.record, h]
  rw [this]
  exact upRecord_shaped _ _ k

theorem byteArrives_recordsSound {s : State} (h : RecordsSound s) : RecordsSound (byteArrives s) := by
  unfold byteArrives
  split
  · exact h
  · exact h.congr rfl rfl rfl
  · exact recordsSound_of_upRecords rfl

theorem LinkSideFrame.recordsSound {s t : State} (f : LinkSideFrame s t) (h : RecordsSound s) : RecordsSound t :=
  h.congr (congrArg KeyBlock.table f.keys) (congrArg KeyBlock.map f.keys) (congrArg ScanBlock.config f.scan)

theorem endTransmission_recordsSound {f : TxFrame} {s : State} (h : RecordsSound s) :
    RecordsSound (endTransmission f s) := by
  have idle : RecordsSound { s with link.tx := none } := h.congr rfl rfl rfl
  rcases endTransmission_cases f s with ⟨-, e⟩ | ⟨-, -, -, e⟩ | ⟨-, -, e⟩ | e <;> rw [e]
  · exact (noticeSent_linkSide _ _).1.recordsSound idle
  · exact recordsSound_of_upRecords rfl
  · unfold checkSleepEntry
    split <;> exact idle.congr rfl rfl rfl
  · exact idle

/-- A quiet event, and the effect of every request but SET_KEYMAP, leaves records, key map and configuration alone. -/
theorem EffectFrame.recordsSound {c : Instr} {s t : State} (f : EffectFrame c s t) (hc : c ≠ .setKeymap)
    (h : RecordsSound s) : RecordsSound t := by
  have map : settingOf c ≠ some .keyMap := settingOf_ne fun d hd => by
    rintro rfl
    cases c <;> simp [settingOf] at hd hc
  exact h.congr f.table (f.kept.map map) (congrArg ScanBlock.config f.scan)

theorem liveStep_recordsSound (c : Instr) {s : State} (h : RecordsReady s) (scan : ScanSound s) :
    RecordsSound (liveStep c s) := by
  have sound := h.sound
  have present : ∀ pins, RecordsSound (presentEncoderPins pins s) := fun pins => sound.congr rfl rfl rfl
  have event : ∀ {o}, eventSort c = o → o ≠ .own → c ≠ .setKeymap := by rintro o hs ho rfl; exact ho hs.symm
  cases hs : eventSort c with
  | quiet => exact (liveStep_quiet hs s).recordsSound (event hs nofun) sound
  | waking =>
    obtain ⟨u, f, e | ⟨-, cause, e⟩⟩ := liveStep_waking hs s <;> rw [e]
    · exact f.recordsSound (event hs nofun) sound
    · exact recordsSound_of_upRecords rfl
  | receiving =>
    obtain ⟨u, f, e | g⟩ := liveStep_receiving hs s
    · rw [e]; exact f.recordsSound (event hs nofun) sound
    · exact g.recordsSound (byteArrives_recordsSound (f.recordsSound (event hs nofun) sound))
  | own =>
    cases c
    case slotEnd returns => exact takeReading_recordsSound h scan
    case chordWindowExpiry =>
      simp only [liveStep]
      split
      · exact (h.settled (expireWindow_frame s).1 (expireWindow_settled s)).sound
      · exact sound
    case millisecondTick => exact sound.congr rfl rfl rfl
    case slotStart =>
      simp only [liveStep]
      split
      · exact sound.congr rfl rfl rfl
      · exact sound
    case blinkTimerExpiry =>
      simp only [liveStep, expireBlink]
      split
      · exact sound.congr rfl rfl rfl
      · exact sound
    case wakeSweep returns pins =>
      have presented : RecordsSound (presentEncoderPins pins (presentReturns returns s)) := sound.congr rfl rfl rfl
      simp only [liveStep]
      split
      · unfold sweepOnce settleSweep
        split
        · exact recordsSound_of_upRecords rfl
        · exact presented.congr rfl rfl rfl
      · exact presented
    case arbiterChoice =>
      simp only [liveStep]
      split
      · exact (chooseFrame_linkSide s).recordsSound sound
      · exact sound
    case endOfTransmission pins =>
      simp only [liveStep]
      split
      · exact endTransmission_recordsSound (present pins)
      · exact present pins
    all_goals first | exact sound | cases hs

/-! ### Requests -/

/-- After SET_KEYMAP's writes a key has the entry it had, or is one of those named (R33). -/
theorem writeMap_mapEntry (entries : List (KeyIndex × KeyMapEntry)) (s : State) (k : KeyIndex) :
    (writeMap entries s).mapEntry k = s.mapEntry k ∨ ∃ e ∈ entries, e.1 = k := by
  have writes : ∀ (l : List (KeyIndex × KeyMapEntry)) (m : Vector KeyMapEntry 64),
      (l.foldl (fun m e => m.set e.1 e.2) m)[k] = m[k] ∨ ∃ e ∈ l, e.1 = k := by
    intro l
    induction l with
    | nil => exact fun m => .inl rfl
    | cons e rest ih =>
      intro m
      rcases ih (m.set e.1 e.2) with h | ⟨x, hx, hk⟩
      · by_cases he : e.1 = k
        · exact .inr ⟨e, List.mem_cons_self, he⟩
        · have hv : e.1.val ≠ k.val := fun hv => he (Fin.ext hv)
          left
          rw [List.foldl_cons, h]
          simp [hv]
      · exact .inr ⟨x, List.mem_cons_of_mem _ hx, hk⟩
  exact writes entries s.keys.map

/-- SET_KEYMAP writes the entries of UP keys alone (R25, R32). -/
theorem writeMap_recordsSound {entries : List (KeyIndex × KeyMapEntry)} {s : State} (h : RecordsSound s)
    (up : s.namedKeysUp entries = true) : RecordsSound (writeMap entries s) where
  count := h.count
  reason := h.reason
  admission := h.admission
  chorded := h.chorded
  unscanned := h.unscanned
  disabled k hd := by
    rcases writeMap_mapEntry entries s k with e | ⟨x, hx, rfl⟩
    · rw [e] at hd; exact h.disabled k hd
    · simp only [State.namedKeysUp, List.all_eq_true, beq_iff_eq] at up
      exact up x hx

theorem checkKeymap_ok {p : List Byte} {s : State} {entries : List (KeyIndex × KeyMapEntry)}
    (h : checkKeymap p s = .ok entries) : s.namedKeysUp entries = true := by
  unfold checkKeymap at h
  split at h
  · cases h
  · split at h
    next hu => injection h with h; subst h; exact hu
    next => cases h

theorem deliverReport_recordsSound {s : State} (h : RecordsSound s) : RecordsSound (deliverReport s) :=
  (deliverReport_linkSide s).recordsSound h

theorem serve_recordsSound {kind : Byte} {execute : Frame → State → State} {s : State} (h : RecordsSound s)
    (hx : ∀ r u, RecordsSound u → RecordsSound (execute r u)) : RecordsSound (serve kind execute s) :=
  serve_keeps (Inv := RecordsSound) h fun r _ _ _ _ => hx r _ (h.congr rfl rfl rfl)

theorem execSetKeymap_recordsSound {s t : State} (h : RecordsSound s) (he : exec .setKeymap s = .next t) :
    RecordsSound t := by
  have he : execSetKeymap s = .next t := he
  unfold execSetKeymap at he
  rcases whenServing_next he with ⟨-, rfl⟩ | ⟨-, rfl⟩
  · refine deliverReport_recordsSound (serve_recordsSound h fun r u hu => ?_)
    refine answer_keeps (fun p => (finishRequest_linkSide r p u).recordsSound hu) fun entries p hok => ?_
    exact (finishRequest_linkSide r p _).recordsSound (writeMap_recordsSound hu (checkKeymap_ok hok))
  · exact h

theorem RequestStep.recordsSound {c : Instr} {s t : State} (hstep : RequestStep c s t) (hc : c ≠ .setKeymap)
    (h : RecordsSound s) : RecordsSound t := by
  cases hstep with
  | heldInReset => exact h
  | notExecuted v presented => exact deliverReport_recordsSound (presented.recordsSound hc h)
  | answered v r rest payload u presented oldest taken effect =>
    have popped : RecordsSound { v with dispatch.requests := rest } := (presented.recordsSound hc h).congr rfl rfl rfl
    exact deliverReport_recordsSound ((finishRequest_linkSide r payload u).recordsSound (effect.recordsSound hc popped))

theorem executeRestart_recordsSound (r : Frame) (u : State) (h : RecordsSound u) :
    RecordsSound (executeRestart r u) := by
  unfold executeRestart
  split <;> exact h.congr rfl rfl rfl

theorem executeSetScan_recordsSound (r : Frame) (u : State) (h : RecordsSound u) :
    RecordsSound (executeSetScan r u) := by
  unfold executeSetScan
  split <;> exact h.congr rfl rfl rfl

theorem executeSleep_recordsSound (r : Frame) (u : State) (h : RecordsSound u) :
    RecordsSound (executeSleep r u) := by
  unfold executeSleep
  split
  · exact h.congr rfl rfl rfl
  · split <;> exact h.congr rfl rfl rfl

theorem exec_recordsSound {c : Instr} {s t : State} (h : RecordsReady s) (scan : ScanSound s)
    (he : exec c s = .next t) : RecordsSound t := by
  have sound := h.sound
  by_cases hc : c = .setKeymap
  · subst hc; exact execSetKeymap_recordsSound sound he
  cases exec_cases he with
  | hardwareReset cause spd pins hc => exact recordsSound_of_upRecords rfl
  | nrstLow hc => exact sound.congr rfl rfl rfl
  | event hk live =>
    have f := deliverReport_linkSide s
    exact liveStep_recordsSound c (h.congr f.keys f.chords (congrArg ScanBlock.config f.scan)) (scan.congr f.scan)
  | restart hc => exact deliverReport_recordsSound (serve_recordsSound sound executeRestart_recordsSound)
  | setScan hc => exact deliverReport_recordsSound (serve_recordsSound sound executeSetScan_recordsSound)
  | sleep hc => exact deliverReport_recordsSound (serve_recordsSound sound executeSleep_recordsSound)
  | request _ hstep => exact hstep.recordsSound hc sound
  | unchanged => exact sound

/-- Settles O53, by `exec_recordsSound`; that the held keys are DOWN or BREAKING comes from the down-set and the order of
the held list. -/
theorem stepKeepsTheKeyRecordsSound : Obligations.StepKeepsTheKeyRecordsSound := by
  unfold Obligations.StepKeepsTheKeyRecordsSound
  intro s t h hstep
  rcases step_cases hstep with ⟨-, rfl⟩ | ⟨c, rest, -, he⟩
  · exact h.records
  · exact exec_recordsSound (s := { s with pending := rest }) (h.ready.congr rfl rfl rfl) (h.scan.congr rfl) he

end Sys2Proof.Machine
end

section
/-!
Obligations O2, O3, O4, O5, O6, O20, O40 and O50: what the resets leave, panel time and timers, the start of a slot, the
encoder events, SET_SCAN, and the soundness of the reset state.
-/
namespace Sys2Proof.Machine

/-! ### Resets -/

/-- A hardware reset with a cause of its own is the end of reset on the presented pins (R10, R167). -/
theorem exec_hardwareReset {cause : ReadyCause} (h : cause = .power ∨ cause = .pin) (spd : Bool) (pins : EncoderPins)
    (s : State) : exec (.hardwareReset cause spd pins) s =
      .next (hardwareResetEnds cause (presentEncoderPins pins { s with pins.spd := spd, pins.nrst := true })) := by
  rcases h with rfl | rfl <;> rfl

theorem resetBankA_digits : resetBankA.toList.take 16 = digitPatterns := by decide

/-- The entries of bank A behind the sixteen digits are dark after a reset (R111). -/
theorem resetBankA_dark {c : Fin 64} (h : 16 ≤ c.val) : resetBankA[c] = 0x0000#16 := by
  have hl : digitPatterns.length ≤ c.val := h
  simp [resetBankA, List.getElem?_eq_none hl]

/-- Settles O2: the state a hardware reset leaves, block by block. -/
theorem hardwareResetLeavesTheResetValues : Obligations.HardwareResetLeavesTheResetValues := by
  unfold Obligations.HardwareResetLeavesTheResetValues
  refine ⟨fun cause spd pins s hc => ⟨_, exec_hardwareReset hc spd pins s, ?_⟩, fun _ _ _ => rfl, fun _ => rfl⟩
  have entry : ∀ k : KeyIndex, resetKeys.map[k] = resetMapEntry k := fun k => by simp [resetKeys]
  have record : ∀ k : KeyIndex, resetKeys.table[k] = upRecord := fun k => by simp [resetKeys]
  have slot : ∀ i : SlotIndex, resetChords.slots[i] = none := fun i => by simp [resetChords]
  have hold : ∀ k : KeyIndex, resetRepeatHold.holdTimers[k] = none := fun k => by simp [resetRepeatHold]
  have buffer : ∀ p : Position, resetDisplay.buffer[p] = blankRecord := fun p => by simp [resetDisplay]
  have bankB : ∀ c : Fin 64, resetDisplay.bankB[c] = 0x0000#16 := fun c => by simp [resetDisplay]
  have shown : ∀ p : Position, resetDisplay.shown[p] = 0x0000#16 := fun p => by simp [resetDisplay]
  exact ⟨rfl, rfl, rfl, entry, record, rfl, slot, rfl, rfl, rfl, rfl, rfl, rfl, rfl, rfl, hold, rfl, rfl, rfl, buffer,
    resetBankA_digits, fun c hc => resetBankA_dark hc, bankB, rfl, rfl, rfl, rfl, rfl, rfl, shown, rfl, rfl, rfl, rfl, rfl⟩

/-- While NRST is low no command but the two of NRST has an effect (log 16). -/
theorem exec_of_nrst_low {c : Instr} {s : State} (hn : s.pins.nrst = false)
    (hreset : ∀ cause spd pins, c ≠ .hardwareReset cause spd pins) (hlow : c ≠ .nrstHeldLow) :
    exec c s = .next s := by
  cases hk : c.requestKind with
  | none => rw [exec_event hk hreset hlow, whenLive_of_not_nrst hn]
  | some kind =>
    cases c
    case setEncoders pins => simp only [exec, execSetEncoders]; exact whenServing_of_not_nrst hn
    all_goals first | exact whenServing_of_not_nrst hn | cases hk

/-- Settles O3: the state NRST going low leaves, and `exec_of_nrst_low` for every other command. -/
theorem nrstHeldLowStopsThePart : Obligations.NrstHeldLowStopsThePart :=
  ⟨fun _ => ⟨_, rfl, rfl, rfl, fun _ => rfl⟩, fun _ _ hn hreset hlow => exec_of_nrst_low hn hreset hlow⟩

/-! ### Panel time and timers -/

/-- Settles O4: the tick is `tick`, whose sum wraps modulo 65536. -/
theorem tickAdvancesPanelTime : Obligations.TickAdvancesPanelTime := by
  unfold Obligations.TickAdvancesPanelTime
  intro s hl
  have owed : ∀ e : EncoderChannel, oweSample s.power.state e =
      { e with sampleDue := if e.enabled = true ∧ s.power.state ≠ .asleep then true else e.sampleDue } := by
    intro e
    unfold oweSample
    by_cases h : e.enabled = true ∧ s.power.state ≠ .asleep
    · simp [h]
    · rw [if_neg h]
      have : (e.enabled && s.power.state != .asleep) = false := by simpa using h
      simp [this]
  refine ⟨tick s, whenLive_of_live hl, ?_, ?_⟩
  · simp only [tick, owed]
  · have := s.scan.panelTime.isLt
    simp only [tick_panelTime, BitVec.toNat_add, BitVec.toNat_ofNat]
    split <;> omega

/-- Settles O5, by arithmetic modulo 65536 (`timerDue_startTimer`). -/
theorem timerIsDueFromItsExpiryTick : Obligations.TimerIsDueFromItsExpiryTick :=
  ⟨fun t _ _ _ hms he => timerDue_startTimer t hms he, timerDue_none⟩

/-! ### The start of a slot -/

/-- The pattern with one position line low is the other seven bits (R3). -/
theorem driveLine_eq (p : Position) : driveLine p = BitVec.ofNat 8 (255 - 2 ^ p.val) := by
  revert p; decide

/-- The composed pattern, by the first case of R115 that applies, as the statement spells it. -/
theorem compose_eq (d : DisplayBlock) (p : Position) :
    d.compose p =
      if d.enable = false then 0x0000#16
      else if d.testTimer.isSome = true then 0xFFFF#16
      else if d.buffer[p].blink = true ∧ d.blinkOn = false then 0x0000#16
      else d.modePattern d.buffer[p] := by
  simp [DisplayBlock.compose]

/-- Half of a brightness, rounded up (R116). -/
theorem litSixteenths_eq (d : DisplayBlock) (p : Position) :
    d.litSixteenths p =
      if d.testTimer.isSome = true then 16
      else if d.buffer[p].dim = true then d.brightness / 2 + d.brightness % 2
      else d.brightness := by
  have half : (d.brightness + 1) / 2 = d.brightness / 2 + d.brightness % 2 := by omega
  simp only [DisplayBlock.litSixteenths, half]

/-- Settles O6, by cases on the mode of the display record. -/
theorem slotStartDrivesTheComposedPattern : Obligations.SlotStartDrivesTheComposedPattern := by
  unfold Obligations.SlotStartDrivesTheComposedPattern
  refine ⟨fun s hl awake stopped => ?_, fun s hl h => ?_⟩
  · have starts : exec .slotStart s = .next (startSlot s) := by
      rw [exec_event (c := .slotStart) rfl nofun nofun, whenLive_of_live hl]
      simp [liveStep, State.slotMayStart, awake, stopped]
    simp only [starts, startSlot, compose_eq, litSixteenths_eq, driveLine_eq]
    generalize s.display.buffer[s.scan.slotIndex] = r
    obtain ⟨mode, point, blink, dim⟩ := r
    cases mode with
    | blank => simp [DisplayBlock.modePattern]
    | glyph bank code => cases bank <;> simp [DisplayBlock.modePattern, DisplayBlock.glyph, withPoint]
    | raw pattern => simp [DisplayBlock.modePattern, withPoint]
  · rw [exec_event (c := .slotStart) rfl nofun nofun, whenLive_of_live hl]
    have : s.slotMayStart = false := by rcases h with h | h <;> simp [State.slotMayStart, h]
    simp [liveStep, this]

/-! ### Encoder events -/

/-- Settles O20: both events by the condition under which they wake the part. -/
theorem encoderEventsWakeTheSleepingPart : Obligations.EncoderEventsWakeTheSleepingPart := by
  unfold Obligations.EncoderEventsWakeTheSleepingPart
  refine ⟨fun ch pins s hl => ?_, fun pins s hl => ?_⟩
  · have channel : (presentEncoderPins pins s).channel ch = s.channel ch := State.channel_congr rfl ch
    have report : (s.channel ch).hasReport = true ↔ (s.channel ch).delta ≠ 0 ∨ (s.channel ch).overFlag = true := by
      simp [EncoderChannel.hasReport]
    simp only [exec_event (c := .coalescingTimerExpiry ch pins) rfl nofun nofun, whenLive_of_live hl, liveStep, channel,
      State.now]
    refine ⟨fun due => ?_, fun early => ?_⟩
    · simp only [due, if_true, expireCoalescing, channel, report, presentEncoderPins_power]
    · simp [early]
  · have changed : ((presentEncoderPins pins s).pinChanged .e0 || (presentEncoderPins pins s).pinChanged .e1) = true ↔
        (s.encoders.e0.enabled = true ∧ s.power.mask.e0 = true ∧ pins.e0 ≠ s.encoders.e0.quad) ∨
          (s.encoders.e1.enabled = true ∧ s.power.mask.e1 = true ∧ pins.e1 ≠ s.encoders.e1.quad) := by
      simp [State.pinChanged, State.channel, State.pinsOf, WakeMask.watches, and_assoc]
    simp only [exec_event (c := .encoderPinChange pins) rfl nofun nofun, whenLive_of_live hl, liveStep, changed]
    exact ⟨fun h => by rw [if_pos h], fun h => by rw [if_neg h]⟩

/-! ### SET_SCAN -/

theorem readRange_eq {lo hi : Nat} {b : Byte} (h : lo ≤ b.toNat ∧ b.toNat ≤ hi) :
    readRange lo hi b = some b.toNat :=
  if_pos h

/-- A byte is an off/on setting exactly from 0 to 1 (R176). -/
theorem readBool_eq (b : Byte) : readBool b = if b.toNat ≤ 1 then some (decide (b = 1#8)) else none := by
  revert b; decide

theorem readBool_some {b : Byte} {v : Bool} (h : readBool b = some v) : b.toNat ≤ 1 := by
  rw [readBool_eq] at h
  split at h
  next hb => exact hb
  next => cases h

/-- The seven fields of SET_SCAN in their ranges (R11). -/
def ScanFieldsInRange (n t dp dr l g k : Byte) : Prop :=
  1 ≤ n.toNat ∧ n.toNat ≤ 8 ∧ 1 ≤ t.toNat ∧ t.toNat ≤ 8 ∧ 1 ≤ dp.toNat ∧ dp.toNat ≤ 15 ∧ 1 ≤ dr.toNat ∧ dr.toNat ≤ 15 ∧
    2 ≤ l.toNat ∧ l.toNat ≤ 8 ∧ g.toNat ≤ 1 ∧ k.toNat ≤ 1

theorem readScan_of_inRange {n t dp dr l g k : Byte} (h : ScanFieldsInRange n t dp dr l g k) :
    readScan [n, t, dp, dr, l, g, k] = .ok
      { positions := n.toNat, slotUnits := t.toNat, dp := dp.toNat, dr := dr.toNat, limit := l.toNat,
        ghostFilter := decide (g = 1#8), keyScanning := decide (k = 1#8) } := by
  obtain ⟨n1, n2, t1, t2, dp1, dp2, dr1, dr2, l1, l2, hg, hk⟩ := h
  simp [readScan, readRange_eq ⟨n1, n2⟩, readRange_eq ⟨t1, t2⟩, readRange_eq ⟨dp1, dp2⟩, readRange_eq ⟨dr1, dr2⟩,
    readRange_eq ⟨l1, l2⟩, readBool_eq, hg, hk, orRange]

theorem readScan_of_not_inRange {n t dp dr l g k : Byte} (h : ¬ ScanFieldsInRange n t dp dr l g k) :
    readScan [n, t, dp, dr, l, g, k] = .error .range := by
  have orRange_none : ∀ v : Option ScanConfig, (∀ c, v ≠ some c) → orRange v = .error .range := by
    intro v hv
    cases v with
    | none => rfl
    | some c => exact absurd rfl (hv c)
  refine orRange_none _ fun c hc => h ?_
  simp only [Option.bind_eq_bind, Option.bind_eq_some_iff, Option.pure_def, Option.some.injEq] at hc
  obtain ⟨n', hn, t', ht, dp', hdp, dr', hdr, l', hl, g', hg, k', hk, -⟩ := hc
  obtain ⟨rfl, n1, n2⟩ := readRange_some hn
  obtain ⟨rfl, t1, t2⟩ := readRange_some ht
  obtain ⟨rfl, dp1, dp2⟩ := readRange_some hdp
  obtain ⟨rfl, dr1, dr2⟩ := readRange_some hdr
  obtain ⟨rfl, l1, l2⟩ := readRange_some hl
  exact ⟨n1, n2, t1, t2, dp1, dp2, dr1, dr2, l1, l2, readBool_some hg, readBool_some hk⟩

theorem readScan_of_length_ne {p : List Byte} (h : p.length ≠ 7) : readScan p = .error .badLength := by
  unfold readScan
  split
  · exact absurd rfl h
  · rfl

/-- What SET_SCAN does at a request (R11). -/
theorem exec_setScan_of_serves {r : Frame} {rest : List Frame} {s : State} (hs : s.serves 0x04#8 r rest) :
    exec .setScan s = .next (executeSetScan r { s with dispatch.requests := rest }) := by
  have hl := hs.1
  have run : serve 0x04#8 executeSetScan s = executeSetScan r { s with dispatch.requests := rest } :=
    serve_of_serves executeSetScan hs
  have owed : (executeSetScan r { s with dispatch.requests := rest }).link = s.link := by
    unfold executeSetScan
    split <;> rfl
  rw [← run]
  exact whenServing_of_live hl (by rw [run, owed])

/-- A refused SET_SCAN posts its code and changes nothing else (R11, R157). -/
theorem executeSetScan_refused {r : Frame} {code : ResultCode} (rest : List Frame) (s : State)
    (h : readScan r.payload = .error code) :
    executeSetScan r { s with dispatch.requests := rest } = s.replied r rest [code.byte] := by
  simp only [executeSetScan, h]
  rw [finishRequest_eq_replied r rest _ s _ rfl]
  rfl

/-- Settles O40: the payload is read (`readScan_of_inRange`) or refused with the code of the check that fails. -/
theorem setScanBecomesPending : Obligations.SetScanBecomesPending := by
  unfold Obligations.SetScanBecomesPending
  intro r rest s hs
  rw [exec_setScan_of_serves hs]
  refine ⟨fun n t dp dr l g k hp => ⟨fun inRange => ?_, fun outOfRange => ?_⟩, fun length => ?_⟩
  · have h := readScan_of_inRange inRange
    rw [← hp] at h
    simp only [executeSetScan, h]
  · have h := readScan_of_not_inRange outOfRange
    rw [← hp] at h
    rw [executeSetScan_refused rest s h]
    rfl
  · rw [executeSetScan_refused rest s (readScan_of_length_ne length)]
    rfl

/-! ### The reset state -/

theorem resetChannel_sound (pins : QuadPair) : (resetChannel pins).Sound := by
  constructor <;> simp [resetChannel]

/-- The reset state's key path is sound: nothing is down, held or timed (R18, R54, R71, R72). -/
theorem reset_keysSound : KeysSound State.reset where
  scan := (panelSound_of_reset none rfl rfl rfl rfl).scan
  records := recordsSound_of_upRecords rfl
  downSet :=
    { once := List.nodup_nil
      exactly := fun k => by simp [State.reset, State.record, resetKeys, upRecord, KeyRecord.isHeldDown]
      limit := Nat.zero_le _
      asleep := nofun }
  chords :=
    { members := fun i c h => by simp [State.reset, resetChords] at h
      distinct := fun i j _ c d h => by simp [State.reset, resetChords] at h
      order := List.Sublist.refl []
      atMost := Nat.zero_le 3
      window := by simp [State.reset, resetChords]
      press := nofun
      within := fun h => absurd rfl h }
  repeatHold :=
    { owner := nofun
      timer := by simp [State.reset, resetRepeatHold]
      hold := fun k h => by simp [State.reset, resetRepeatHold] at h
      delay := by decide
      period := by decide
      time := by decide
      window := by decide
      quiet := nofun }

/-- Settles O50: both resets leave panel, keys and dispatcher sound, and the other blocks are evaluated. -/
theorem resetStateIsSound : Obligations.ResetStateIsSound := by
  refine ⟨?_, panelSound_of_reset none rfl rfl rfl rfl, reset_keysSound, ⟨resetChannel_sound _, resetChannel_sound _⟩, ?_, ?_,
    dispatchSound_of_reset rfl rfl rfl, ?_⟩
  · constructor <;> decide
  · constructor <;> decide
  · exact ⟨trivial, by decide, by decide, by decide⟩
  · constructor <;> decide

end Sys2Proof.Machine
end

section
/-!
Obligations O7 and O8: the sample event in its two steps, the release of the lines, and the frame boundary.
-/
namespace Sys2Proof.Machine

/-! ### The sample event in its two steps -/

/-- The part once the eight contact flags of a position have taken the levels of their return lines, all together (R5).
-/
def readContacts (returns : Byte) (p : Position) (s : State) : State :=
  { s with
    pins.returns := returns
    keys.table := Vector.ofFn fun k : KeyIndex =>
      if k.val / 8 = p.val then { s.record k with contact := !returns.getLsbD (k.val % 8) } else s.record k }

@[simp] theorem readContacts_map (returns : Byte) (p : Position) (s : State) :
    (readContacts returns p s).keys.map = s.keys.map := by simp only [readContacts]

/-- The key state table is the table of its records. -/
theorem table_eq_ofFn (s : State) : s.keys.table = Vector.ofFn s.record := by
  ext i hi
  simp [State.record]

/-- A key is the one at its position and return line. -/
theorem eq_keyAt_iff (k : KeyIndex) (p : Position) (l : ReturnLine) :
    k = keyAt p l ↔ k.val / 8 = p.val ∧ keyLine k = l := by
  simp only [Fin.ext_iff, keyAt, keyLine]
  omega

/-- Taking the contact flags of some lines of a position, one after the other: each named key takes its own line's
level. -/
theorem updateContacts_record_eq (p : Position) (lines : List ReturnLine) (s : State) (k : KeyIndex) :
    (lines.foldl (updateContact p) s).record k =
      if k.val / 8 = p.val ∧ keyLine k ∈ lines then
        { s.record k with contact := !s.pins.returns.getLsbD (k.val % 8) }
      else s.record k := by
  induction lines generalizing s with
  | nil => simp
  | cons l rest ih =>
    have one : (updateContact p s l).record k =
        if k = keyAt p l then { s.record k with contact := !s.pins.returns.getLsbD (k.val % 8) } else s.record k := by
      unfold updateContact
      rw [State.setRecord_record_eq]
      split
      next h =>
        have line : keyLine k = l := ((eq_keyAt_iff k p l).1 h).2
        subst line
        rw [← h]
        rfl
      next => rfl
    have pins : (updateContact p s l).pins = s.pins := rfl
    rw [List.foldl_cons, ih, one, pins]
    by_cases hp : k.val / 8 = p.val <;> by_cases hl : keyLine k = l <;> simp [eq_keyAt_iff, hp, hl]

/-- Taking all eight flags is one reading (R5). -/
theorem updateContacts_eq (returns : Byte) (p : Position) (s : State) :
    allLines.foldl (updateContact p) (presentReturns returns s) = readContacts returns p s := by
  obtain ⟨table, e⟩ := updateContacts_frame p allLines (presentReturns returns s)
  have records : (allLines.foldl (updateContact p) (presentReturns returns s)).record = (readContacts returns p s).record := by
    funext k
    have line : keyLine k ∈ allLines := List.mem_finRange _
    rw [updateContacts_record_eq]
    simp only [line, and_true]
    simp [readContacts, State.record]
  have same : table = (readContacts returns p s).keys.table := by
    rw [table_eq_ofFn (readContacts returns p s), ← records, ← table_eq_ofFn, e]
  rw [e, same]
  rfl

/-- The eight debounce steps of a position in ascending return line, each whole (R5, R19). -/
def examineKeys (p : Position) (s : State) : State :=
  ([0, 1, 2, 3, 4, 5, 6, 7] : List ReturnLine).foldl (fun u l => debounceStep (keyAt p l) u) s

/-- The sample event is the reading and then the eight debounce steps (R5). -/
theorem sampleEvent_eq (returns : Byte) (p : Position) (s : State) :
    sampleEvent p (presentReturns returns s) = examineKeys p (readContacts returns p s) := by
  unfold sampleEvent
  rw [updateContacts_eq]
  rfl

/-- The eight debounce steps meet the frame of the key path. -/
theorem examineKeys_frame (p : Position) (s : State) : KeyPathFrame s (examineKeys p s) :=
  debounceSteps_frame p _ s

/-- A key's contact flag after the sample: its line's level at the sampled position, as it was anywhere else (R5, R7).
-/
theorem examineKeys_contact (returns : Byte) (p : Position) (s : State) (k : KeyIndex) :
    ((examineKeys p (readContacts returns p s)).record k).contact =
      if k.val / 8 = p.val then !returns.getLsbD (k.val % 8) else (s.record k).contact := by
  rw [(examineKeys_frame p _).contact]
  have record : (readContacts returns p s).record k =
      if k.val / 8 = p.val then { s.record k with contact := !returns.getLsbD (k.val % 8) } else s.record k := by
    simp [readContacts, State.record]
  rw [record]
  split <;> rfl

/-- Debounce steps of a position's keys leave the other positions' records as they are, but for the chorded flag (R5,
R58). -/
theorem debounceSteps_record_of_ne (p : Position) (lines : List ReturnLine) (s : State) {k : KeyIndex}
    (h : k.val / 8 ≠ p.val) :
    { (lines.foldl (fun u l => debounceStep (keyAt p l) u) s).record k with chorded := false } =
      { s.record k with chorded := false } := by
  induction lines generalizing s with
  | nil => rfl
  | cons l rest ih =>
    have hne : k ≠ keyAt p l := by rintro rfl; exact h (keyAt_div p l)
    rw [List.foldl_cons, ih, debounceStep_record_of_ne s hne]

theorem examineKeys_record_of_ne (returns : Byte) (p : Position) (s : State) {k : KeyIndex} (h : k.val / 8 ≠ p.val) :
    { (examineKeys p (readContacts returns p s)).record k with chorded := false } =
      { s.record k with chorded := false } := by
  unfold examineKeys
  rw [debounceSteps_record_of_ne p _ _ h]
  simp [readContacts, State.record, h]

/-! ### The end of a slot -/

/-- The part after the sample of the slot that ends: examined, or with key scanning off only the levels presented (R4,
R5). -/
def sampledAt (returns : Byte) (s : State) : State :=
  if s.scan.config.keyScanning = true then examineKeys s.scan.slotIndex (readContacts returns s.scan.slotIndex s)
  else { s with pins.returns := returns }

theorem sampledAt_eq (returns : Byte) (s : State) : sampledAt returns s =
    if s.scan.config.keyScanning = true then
      ([0, 1, 2, 3, 4, 5, 6, 7] : List ReturnLine).foldl (fun v l => debounceStep (keyAt s.scan.slotIndex l) v)
        { s with
          pins.returns := returns
          keys.table := Vector.ofFn fun k : KeyIndex =>
            if k.val / 8 = s.scan.slotIndex.val then { s.record k with contact := !returns.getLsbD (k.val % 8) }
            else s.record k }
    else { s with pins.returns := returns } := rfl

theorem sampledAt_scan (returns : Byte) (s : State) : (sampledAt returns s).scan = s.scan := by
  unfold sampledAt
  split
  · exact (examineKeys_frame _ _).scan
  · rfl

/-- SLOT_END with a slot in progress is the sample, the release and, at the frame boundary, the pending configuration.
-/
theorem exec_slotEnd_of_running {returns : Byte} {s : State} (hl : s.live) (awake : s.power.state ≠ .asleep)
    (running : s.scan.slotRunning = true) :
    exec (.slotEnd returns) s = .next
      (if s.scan.slotIndex.val + 1 = s.scan.config.positions then settlePending (releaseSlot (sampledAt returns s))
       else releaseSlot (sampledAt returns s)) := by
  have sampled : (if (presentReturns returns s).scan.config.keyScanning = true then
      sampleEvent (presentReturns returns s).scan.slotIndex (presentReturns returns s) else presentReturns returns s) =
        sampledAt returns s := by
    simp only [presentReturns_scan, sampleEvent_eq]
    rfl
  have may : s.slotMayEnd = true := by simp [State.slotMayEnd, awake, running]
  rw [exec_event (c := .slotEnd returns) rfl nofun nofun, whenLive_of_live hl]
  simp only [liveStep, takeReading, may, if_true, endSlot_eq, sampled]
  rfl

/-- The release of a slot after its sample, as the statements spell it (R4). -/
theorem releaseSlot_sampledAt (returns : Byte) (s : State) :
    releaseSlot (sampledAt returns s) = { sampledAt returns s with
      scan := { s.scan with
        slotRunning := false
        slotIndex := if s.scan.slotIndex.val + 1 < s.scan.config.positions then s.scan.slotIndex + 1 else 0 }
      lines := { position := 0xFF#8, segment := 0x0000#16, lit := 0, swept := 0xFF#8 } } := by
  simp only [releaseSlot, sampledAt_scan, nextSlot, releasedLines]

/-- What the sample of a slot's end leaves untouched with key scanning on (R5, R7, R58). -/
theorem sampledAt_frame {returns : Byte} {s : State} (scanning : s.scan.config.keyScanning = true) :
    KeyPathFrame (readContacts returns s.scan.slotIndex s) (sampledAt returns s) := by
  unfold sampledAt
  rw [if_pos scanning]
  exact examineKeys_frame _ _

/-- What a state that meets the frame after a reading still has of the state before, once the slot is released. -/
theorem releaseSlot_untouched {returns : Byte} {p : Position} {s u : State} (f : KeyPathFrame (readContacts returns p s) u) :
    (releaseSlot u).keys.map = s.keys.map ∧ (releaseSlot u).chords.slots = s.chords.slots ∧
      { (releaseSlot u).repeatHold with owner := none, timer := none, holdTimers := s.repeatHold.holdTimers } =
        { s.repeatHold with owner := none, timer := none } ∧
      (releaseSlot u).encoders = s.encoders ∧ (releaseSlot u).display = s.display ∧ (releaseSlot u).power = s.power ∧
      (releaseSlot u).link = s.link ∧ (releaseSlot u).dispatch = s.dispatch ∧
      { (releaseSlot u).notices with fault := s.notices.fault } = s.notices ∧
      (releaseSlot u).notices.fault.e0Count = s.notices.fault.e0Count ∧
      (releaseSlot u).notices.fault.e1Count = s.notices.fault.e1Count ∧ (releaseSlot u).pending = s.pending := by
  refine ⟨f.map.trans (readContacts_map returns p s), f.slots, ?_, f.encoders, f.display, f.power, f.link,
    f.dispatch, f.notices, f.e0Count, f.e1Count,
    f.pending⟩
  simp only [releaseSlot_repeatHold, f.repeatDelay, f.repeatPeriod, f.holdTime, f.chordWindow]
  rfl

/-- Settles O7: the sample event is one reading and eight debounce steps (`sampleEvent_eq`), which meet the frame of the
key path. -/
theorem slotEndTakesTheSample : Obligations.SlotEndTakesTheSample := by
  unfold Obligations.SlotEndTakesTheSample
  refine ⟨fun returns s hl awake running free => ?_, fun returns p s hl awake stopped hc => ?_, fun returns s hl h => ?_⟩
  · have step : exec (.slotEnd returns) s = .next (releaseSlot (sampledAt returns s)) := by
      rw [exec_slotEnd_of_running hl awake running]
      split
      next boundary =>
        have none : (releaseSlot (sampledAt returns s)).scan.pendingScan = none := by
          rw [releaseSlot_pendingScan, sampledAt_scan, free boundary]
        rcases settlePending_cases (releaseSlot (sampledAt returns s)) with ⟨-, e⟩ | ⟨q, hq, -⟩
        · rw [e]
        · rw [none] at hq; cases hq
      next => rfl
    refine ⟨_, step, releaseSlot_sampledAt returns s, ?_, fun scanning => ?_⟩
    · rw [releaseSlot_pins]
      unfold sampledAt
      split
      · exact (examineKeys_frame _ _).pins
      · rfl
    · have f := sampledAt_frame (returns := returns) scanning
      have examined : sampledAt returns s = examineKeys s.scan.slotIndex (readContacts returns s.scan.slotIndex s) :=
        if_pos scanning
      refine ⟨fun k => ?_, fun k hk => ?_, releaseSlot_untouched f⟩
      · rw [State.record_congr (releaseSlot_keys _), examined]
        exact examineKeys_contact returns _ s k
      · rw [State.record_congr (releaseSlot_keys _), examined]
        exact examineKeys_record_of_ne returns _ s hk
  · have may : s.slotMayEnd = false := by simp [State.slotMayEnd, stopped]
    have cut : s.cutSample = some p := by simp [State.cutSample, awake, hc]
    have sampled : sampleCutSlot p (presentReturns returns s) =
        examineKeys p (readContacts returns p { s with scan.cutSlot := none }) :=
      sampleEvent_eq returns p { s with scan.cutSlot := none }
    have f := examineKeys_frame p (readContacts returns p { s with scan.cutSlot := none })
    refine ⟨examineKeys p (readContacts returns p { s with scan.cutSlot := none }), ?_, rfl, f.scan, f.lines,
      examineKeys_contact returns p { s with scan.cutSlot := none }⟩
    rw [exec_event (c := .slotEnd returns) rfl nofun nofun, whenLive_of_live hl]
    simp only [liveStep, takeReading, may, cut, sampled]
    rfl
  · rw [exec_event (c := .slotEnd returns) rfl nofun nofun, whenLive_of_live hl]
    have may : s.slotMayEnd = false := by rcases h with h | ⟨h, -⟩ <;> simp [State.slotMayEnd, h]
    have cut : s.cutSample = none := by rcases h with h | ⟨-, h⟩ <;> simp [State.cutSample, h]
    simp only [liveStep, takeReading, may, cut]
    rfl

/-! ### The frame boundary -/

/-- The contact flags a configuration leaves, as the statement spells it (R14). -/
theorem contactsApplied_eq (before after : ScanConfig) (s : State) :
    contactsApplied before after s.keys.table = Vector.ofFn fun k : KeyIndex =>
      if after.keyScanning = false ∨ (after.positions < before.positions ∧ after.positions ≤ k.val / 8) then
        { s.record k with contact := false }
      else s.record k := by
  unfold contactsApplied openContact State.record
  congr 1
  funext k
  simp

/-- The dispatcher once the reply to a pending SET_SCAN is posted: free, or waiting for reply space (R13, R156). -/
def answeredScan (q : PendingScan) (code : Byte) (d : DispatchBlock) : DispatchBlock :=
  { requests := d.requests
    replies := d.replies ++ [{ kind := 0x84#8, tag := q.tag, payload := [code] }]
    phase := if d.requests ≠ [] ∧ 3 ≤ d.replies.length then .waitReplySpace else .idle }

theorem finishRequest_pendingScan (q : PendingScan) (code : Byte) (t : State) :
    finishRequest q.request [code] t = { t with dispatch := answeredScan q code t.dispatch } :=
  finishRequest_eq_replied q.request t.dispatch.requests [code] t t rfl

/-- The frame boundary of a released slot applies the pending configuration if every key is UP (R6, R13, R14, R117). -/
theorem settlePending_releaseSlot_of_allUp {q : PendingScan} {u : State} (hq : u.scan.pendingScan = some q)
    (up : ∀ k : KeyIndex, (u.record k).phase = .up) :
    settlePending (releaseSlot u) = { u with
      scan := { u.scan with config := q.config, pendingScan := none, slotIndex := 0, slotRunning := false }
      lines := { position := 0xFF#8, segment := 0x0000#16, lit := 0, swept := 0xFF#8 }
      keys.table := Vector.ofFn fun k : KeyIndex =>
        if q.config.keyScanning = false ∨
            (q.config.positions < u.scan.config.positions ∧ q.config.positions ≤ k.val / 8) then
          { u.record k with contact := false }
        else u.record k
      display.shown := Vector.ofFn fun p : Position =>
        if q.config.positions ≤ p.val then 0x0000#16 else u.display.shown[p]
      dispatch := answeredScan q 0x00#8 u.dispatch } := by
  have up : (releaseSlot u).allUp = true := (allUp_iff _).2 up
  rcases settlePending_cases (releaseSlot u) with ⟨h, -⟩ | ⟨q', hq', ⟨-, e⟩ | ⟨h, -⟩⟩
  · rw [releaseSlot_pendingScan, hq] at h; cases h
  · rw [releaseSlot_pendingScan, hq] at hq'
    injection hq' with hq'
    subst hq'
    rw [e, ResultCode.byte, finishRequest_pendingScan]
    simp only [applyConfig, releaseSlot, contactsApplied_eq, shownApplied, releasedLines]
  · rw [up] at h; cases h

/-- The frame boundary of a released slot discards the pending configuration if some key is not UP (R6, R13). -/
theorem settlePending_releaseSlot_of_active {q : PendingScan} {u : State} (hq : u.scan.pendingScan = some q)
    (boundary : u.scan.slotIndex.val + 1 = u.scan.config.positions) (active : ∃ k : KeyIndex, (u.record k).phase ≠ .up) :
    settlePending (releaseSlot u) = { u with
      scan := { u.scan with pendingScan := none, slotIndex := 0, slotRunning := false }
      lines := { position := 0xFF#8, segment := 0x0000#16, lit := 0, swept := 0xFF#8 }
      dispatch := answeredScan q 0x03#8 u.dispatch } := by
  have wrapped : ¬ u.scan.slotIndex.val + 1 < u.scan.config.positions := by omega
  rcases settlePending_cases (releaseSlot u) with ⟨h, -⟩ | ⟨q', hq', ⟨h, -⟩ | ⟨-, e⟩⟩
  · rw [releaseSlot_pendingScan, hq] at h; cases h
  · obtain ⟨k, hk⟩ := active
    exact absurd ((allUp_iff _).1 h k) hk
  · rw [releaseSlot_pendingScan, hq] at hq'
    injection hq' with hq'
    subst hq'
    rw [e, ResultCode.byte, finishRequest_pendingScan]
    simp only [releaseSlot, nextSlot, wrapped, if_false, releasedLines]

/-- Settles O8: the frame boundary meets the part after the whole sample (`exec_slotEnd_of_running`). -/
theorem frameBoundarySettlesSetScan : Obligations.FrameBoundarySettlesSetScan := by
  unfold Obligations.FrameBoundarySettlesSetScan
  intro returns s q hl awake running boundary hq
  have scan := sampledAt_scan returns s
  have waiting : (sampledAt returns s).scan.pendingScan = some q := by rw [scan, hq]
  have last : (sampledAt returns s).scan.slotIndex.val + 1 = (sampledAt returns s).scan.config.positions := by
    rw [scan]; exact boundary
  rw [exec_slotEnd_of_running hl awake running, if_pos boundary]
  simp only [← sampledAt_eq]
  exact ⟨fun up => congrArg _ (settlePending_releaseSlot_of_allUp waiting up),
    fun active => congrArg _ (settlePending_releaseSlot_of_active waiting last active)⟩

end Sys2Proof.Machine
end

section
/-!
Obligations O9, O10, O12 and O23: the debounce step state by state, the release path, and what a wake leaves.
-/
namespace Sys2Proof.Machine

/-! ### The debounce step, one equation per state (R20 to R25) -/

theorem debounceStep_of_disabled {k : KeyIndex} {s : State} (disabled : (s.mapEntry k).enabled = false)
    (hp : (s.record k).phase ≠ .blocked) : debounceStep k s = s := by
  simp [debounceStep, hp, disabled]

theorem debounceStep_of_blocked {k : KeyIndex} {s : State} (hp : (s.record k).phase = .blocked) :
    debounceStep k s =
      if (s.record k).contact = true then setPhase k .blocked 0 s else blockedRun k ((s.record k).count + 1) s := by
  simp [debounceStep, hp]

theorem debounceStep_of_up {k : KeyIndex} {s : State} (enabled : (s.mapEntry k).enabled = true)
    (hp : (s.record k).phase = .up) :
    debounceStep k s = if (s.record k).contact = true then closedRun k 1 s else setPhase k .up 0 s := by
  simp [debounceStep, hp, enabled]

theorem debounceStep_of_making {k : KeyIndex} {s : State} (enabled : (s.mapEntry k).enabled = true)
    (hp : (s.record k).phase = .making) :
    debounceStep k s =
      if (s.record k).contact = true then closedRun k ((s.record k).count + 1) s else setPhase k .up 0 s := by
  simp [debounceStep, hp, enabled]

theorem debounceStep_of_down {k : KeyIndex} {s : State} (enabled : (s.mapEntry k).enabled = true)
    (hp : (s.record k).phase = .down) :
    debounceStep k s = if (s.record k).contact = true then setPhase k .down 0 s else openRun k 1 s := by
  simp [debounceStep, hp, enabled]

theorem debounceStep_of_breaking {k : KeyIndex} {s : State} (enabled : (s.mapEntry k).enabled = true)
    (hp : (s.record k).phase = .breaking) :
    debounceStep k s =
      if (s.record k).contact = true then setPhase k .down 0 s else openRun k ((s.record k).count + 1) s := by
  simp [debounceStep, hp, enabled]

/-- Press admission leaves its key DOWN, or BLOCKED where it is refused (R26). -/
theorem pressAdmission_phase (k : KeyIndex) (s : State) :
    ((pressAdmission k s).record k).phase = .down ∨ ((pressAdmission k s).record k).phase = .blocked := by
  have refused : ∀ reason, ((blockKey k reason s).record k).phase = .blocked := fun reason => by
    unfold blockKey
    rw [State.setRecord_record]
  unfold pressAdmission
  split
  · exact .inr (refused .ghost)
  · split
    · exact .inr (refused .rollover)
    · obtain ⟨marked, -, hr, -⟩ := admitKey_records k s
      left
      rw [hr, takeIntoDownSet_record, if_pos rfl]
      split <;> rfl

/-- Settles O9: the step of an UP key begins a closed run of 1 (`debounceStep_of_up`), which Dp 1 ends at once. -/
theorem debounceStepOfAnEnabledUpKey : Obligations.DebounceStepOfAnEnabledUpKey := by
  unfold Obligations.DebounceStepOfAnEnabledUpKey
  intro k s enabled hp
  rw [debounceStep_of_up enabled hp]
  refine ⟨fun closed longer => ?_, fun closed one => ?_, fun opened => ?_⟩
  · rw [if_pos closed, closedRun, if_neg (Ne.symm longer)]
    rfl
  · have confirmed : closedRun k 1 s = pressAdmission k s := if_pos one.symm
    rw [if_pos closed, confirmed]
    refine ⟨rfl, ?_⟩
    rcases pressAdmission_phase k s with h | h <;> simp [h]
  · rw [if_neg (by simp [opened])]
    rfl

/-- Settles O10, by the equation of each state's step. -/
theorem debounceStepTable : Obligations.DebounceStepTable := by
  unfold Obligations.DebounceStepTable
  intro k s r put
  have opened : ∀ {a b : State}, (if r.contact = true then a else b) = if r.contact = false then b else a := by
    intro a b
    cases r.contact <;> rfl
  refine ⟨debounceStep_of_disabled, fun hp => ?_, fun enabled => ⟨fun hp => ?_, fun hp => ?_, fun hp => ?_⟩⟩
  · exact debounceStep_of_blocked hp
  · exact (debounceStep_of_making enabled hp).trans opened
  · rw [debounceStep_of_down enabled hp]
    simp only [openRun, eq_comm (a := 1)]
    rfl
  · exact debounceStep_of_breaking enabled hp

/-! ### The release path (R27 to R29) -/

/-- Steps 2 and 3 of the release path as one update: the chorded flag is cleared, and the queue takes the RELEASE of an
unchorded key whose map entry asks for one (R28). -/
theorem reportRelease_eq (k : KeyIndex) (s : State) :
    reportRelease k s = { s with
      keys.table := s.keys.table.set k { s.record k with chorded := false }
      queue :=
        if (s.record k).chorded = false ∧ (s.mapEntry k).releaseReport = true then
          appendEvent (.release (s.mapEntry k).code k s.scan.panelTime) s.queue
        else s.queue } := by
  unfold reportRelease
  cases hc : (s.record k).chorded with
  | true => simp [State.setRecord]
  | false =>
    have same : s.keys.table.set k { s.record k with chorded := false } = s.keys.table := by
      rw [← hc]
      exact Vector.set_getElem_self _
    rw [same]
    cases hr : (s.mapEntry k).releaseReport <;> rfl

/-- Step 4 of the release path as one update (R28, R75, R78). -/
theorem endRepeatHold_eq (k : KeyIndex) (s : State) :
    endRepeatHold k s = { s with
      repeatHold.owner := if s.repeatHold.owner.map RepeatOwner.key = some k then none else s.repeatHold.owner
      repeatHold.timer := if s.repeatHold.owner.map RepeatOwner.key = some k then none else s.repeatHold.timer
      repeatHold.holdTimers := s.repeatHold.holdTimers.set k none } := by
  unfold endRepeatHold
  by_cases h : s.repeatHold.owner.map RepeatOwner.key = some k <;> simp only [h, if_true, if_false] <;> rfl

/-- The release path behind a flush, or without one: on a state that has kept the key block and the panel time since the
key left the down-set, steps 2 to 4 read and write the key's own record, entry and timers (R28). -/
theorem releasePath_eq {k : KeyIndex} {s t : State} (keys : t.keys = (leaveDownSet k s).keys)
    (scan : t.scan = s.scan) :
    endRepeatHold k (reportRelease k t) = { t with
      keys.table := s.keys.table.set k
        { s.record k with phase := .up, count := 0, admission := none, chorded := false }
      queue :=
        if (s.record k).chorded = false ∧ (s.mapEntry k).releaseReport = true then
          appendEvent (.release (s.mapEntry k).code k s.scan.panelTime) t.queue
        else t.queue
      repeatHold.owner :=
        if t.repeatHold.owner.map RepeatOwner.key = some k then none else t.repeatHold.owner
      repeatHold.timer :=
        if t.repeatHold.owner.map RepeatOwner.key = some k then none else t.repeatHold.timer
      repeatHold.holdTimers := t.repeatHold.holdTimers.set k none } := by
  have record : t.record k = { s.record k with phase := .up, count := 0, admission := none } :=
    (State.record_congr keys k).trans (State.setRecord_record s k _)
  have entry : t.mapEntry k = s.mapEntry k := mapEntry_congr (congrArg KeyBlock.map keys) k
  have table : t.keys.table = s.keys.table.set k { s.record k with phase := .up, count := 0, admission := none } :=
    congrArg KeyBlock.table keys
  rw [endRepeatHold_eq, reportRelease_eq]
  simp only [record, entry, table, scan, Vector.set_set]

/-- Settles O12: a flush keeps the key block and the panel time (`flushHeld_frame`), so the path behind it is
`releasePath_eq`. -/
theorem releaseRunsTheReleasePath : Obligations.ReleaseRunsTheReleasePath := by
  unfold Obligations.ReleaseRunsTheReleasePath
  intro k s up flushed
  have path : releaseKey k s = endRepeatHold k (reportRelease k flushed) := by
    have held : (leaveDownSet k s).heldKeys.contains k = true ↔ k ∈ s.heldKeys := List.contains_iff_mem
    unfold releaseKey
    simp only [held]
    rfl
  have kept : flushed.keys = (leaveDownSet k s).keys ∧ flushed.scan = s.scan := by
    simp only [flushed]
    split
    · exact ⟨(flushHeld_frame up).2.1, (flushHeld_frame up).1.scan⟩
    · exact ⟨rfl, rfl⟩
  rw [path]
  exact releasePath_eq kept.1 kept.2

/-! ### Wake (R31, R105, R136) -/

/-- Settles O23: `wakePart` block by block; its table of equal records is the statement's. -/
theorem wakeRestoresEachBlock : Obligations.WakeRestoresEachBlock := by
  unfold Obligations.WakeRestoresEachBlock
  intro cause s resync
  have records : Vector.replicate 64 upRecord = Vector.ofFn fun _ : KeyIndex => upRecord := by
    ext i hi : 1
    simp
  unfold wakePart
  rw [records]
  rfl

end Sys2Proof.Machine
end

section
/-!
What a request that is answered at execution comes to, and what the shared readers of payload bytes answer: a layer for
every request's statement.
-/
namespace Sys2Proof.Machine

/-! ### A request answered at execution (R157) -/

/-- A request that fails one of its checks is answered with the check's code and changes nothing else (R157). -/
theorem whenServing_answer_refused {α : Type} {kind : Byte} {fields : Frame → State → Read α}
    {effect : α → State → State} {reply : α → State → List Byte} {r : Frame} {rest : List Frame} {s : State}
    (hs : s.serves kind r rest) {code : ResultCode} (h : fields r { s with dispatch.requests := rest } = .error code) :
    whenServing (serve kind fun r u => answer (fields r u) effect reply r u) s =
      .next (s.replied r rest [code.byte]) := by
  have run : serve kind (fun r u => answer (fields r u) effect reply r u) s = s.replied r rest [code.byte] := by
    rw [serve_of_serves _ hs, h]
    exact answer_error code effect reply r rest s
  rw [← run]
  exact whenServing_of_live hs.1 (by rw [run]; rfl)

/-- A request that passes every check has its effect, and is answered OK with the fields read (R157). -/
theorem whenServing_answer_accepted {α : Type} {kind : Byte} {fields : Frame → State → Read α}
    {effect : α → State → State} {reply : α → State → List Byte} {r : Frame} {rest : List Frame} {s : State}
    (hs : s.serves kind r rest) {a : α} (h : fields r { s with dispatch.requests := rest } = .ok a)
    (dispatch : (effect a { s with dispatch.requests := rest }).dispatch = { s.dispatch with requests := rest })
    (link : (effect a { s with dispatch.requests := rest }).link = s.link) :
    whenServing (serve kind fun r u => answer (fields r u) effect reply r u) s =
      .next { effect a { s with dispatch.requests := rest } with
        dispatch := (s.replied r rest (0x00#8 :: reply a { s with dispatch.requests := rest })).dispatch } := by
  have run : serve kind (fun r u => answer (fields r u) effect reply r u) s =
      { effect a { s with dispatch.requests := rest } with
        dispatch := (s.replied r rest (0x00#8 :: reply a { s with dispatch.requests := rest })).dispatch } := by
    rw [serve_of_serves _ hs, h]
    exact answer_ok a effect reply r rest s dispatch
  rw [← run]
  exact whenServing_of_live hs.1 (by rw [run, link])

/-- A request that only reads is answered OK with the fields read and changes nothing else (R157). -/
theorem whenServing_answer_read {α : Type} {kind : Byte} {fields : Frame → State → Read α}
    {reply : α → State → List Byte} {r : Frame} {rest : List Frame} {s : State} (hs : s.serves kind r rest) {a : α}
    (h : fields r { s with dispatch.requests := rest } = .ok a) :
    whenServing (serve kind fun r u => answer (fields r u) noEffect reply r u) s =
      .next (s.replied r rest (0x00#8 :: reply a { s with dispatch.requests := rest })) :=
  whenServing_answer_accepted hs h rfl rfl

/-! ### Key indices, slots and flags in payloads (R176) -/

theorem readKey_of_le {b : Byte} (h : b.toNat ≤ 63) : readKey b = some (Fin.ofNat 64 b.toNat) := by
  have lt : b.toNat < 64 := by omega
  rw [readKey, dif_pos lt]
  exact congrArg some (Fin.ext (Nat.mod_eq_of_lt lt).symm)

theorem readKey_some {b : Byte} {k : KeyIndex} (h : readKey b = some k) : b.toNat ≤ 63 := by
  unfold readKey at h
  split at h
  next lt => omega
  next => cases h

theorem readSlot_natByte (i : SlotIndex) : readSlot (natByte i.val) = some i := by
  revert i; decide

theorem readSlot_of_lt {b : Byte} (h : 7 < b.toNat) : readSlot b = none :=
  dif_neg (by omega)

theorem readFlags_of_lt {n : Nat} {b : Byte} (h : b.toNat < 2 ^ n) : readFlags n b = some b := if_pos h

theorem readFlags_some {n : Nat} {b f : Byte} (h : readFlags n b = some f) : b.toNat < 2 ^ n := by
  unfold readFlags at h
  split at h
  next lt => exact lt
  next => cases h

end Sys2Proof.Machine
end

section
/-!
Obligations O37 and O41: GET_KEYMAP and GET_CHORD report their tables, and SET_KEYMAP writes the entries of UP keys.
-/
namespace Sys2Proof.Machine

/-! ### GET_KEYMAP (R35) -/

/-- The flags byte of a map entry is the sum of its flags' bits (13, "Value tables"). -/
theorem mapFlags_eq (e : KeyMapEntry) :
    mapFlags e = BitVec.ofNat 8 ((if e.enabled = true then 2 ^ 0 else 0) + (if e.repeats = true then 2 ^ 1 else 0) +
      (if e.releaseReport = true then 2 ^ 2 else 0) + (if e.holdReport = true then 2 ^ 3 else 0)) := by
  have bits : ∀ a b c d : Bool, flagBit a 0 ||| flagBit b 1 ||| flagBit c 2 ||| flagBit d 3 =
      BitVec.ofNat 8 ((if a = true then 2 ^ 0 else 0) + (if b = true then 2 ^ 1 else 0) +
        (if c = true then 2 ^ 2 else 0) + (if d = true then 2 ^ 3 else 0)) := by decide
  exact bits ..

/-- The keys of a run, counted from its start: both lists ascend and hold the same keys. -/
theorem keysOfRun_eq {start count : Nat} (h : start + count ≤ 64) :
    (allKeys.filter fun k => start ≤ k.val ∧ k.val < start + count) =
      (List.range count).map fun i => (Fin.ofNat 64 (start + i) : KeyIndex) := by
  have value : ∀ i < count, (Fin.ofNat 64 (start + i) : KeyIndex).val = start + i :=
    fun i hi => Nat.mod_eq_of_lt (by omega)
  have ascending : ((List.range count).map fun i => (Fin.ofNat 64 (start + i) : KeyIndex)).Pairwise (· < ·) := by
    rw [List.pairwise_map]
    refine List.pairwise_lt_range.imp_of_mem fun hi hj hij => ?_
    rw [Fin.lt_def, value _ (List.mem_range.1 hi), value _ (List.mem_range.1 hj)]
    omega
  refine List.Pairwise.eq_of_mem_iff ((List.pairwise_lt_finRange 64).filter _) ascending fun k => ?_
  have listed : k ∈ allKeys := List.mem_finRange k
  simp only [List.mem_filter, listed, true_and, decide_eq_true_eq, List.mem_map, List.mem_range]
  constructor
  · rintro ⟨low, high⟩
    refine ⟨k.val - start, by omega, Fin.ext ?_⟩
    rw [value _ (by omega)]
    omega
  · rintro ⟨i, hi, rfl⟩
    rw [value i hi]
    omega

/-- The run GET_KEYMAP reads is that of the keys counted from its start. -/
theorem readKeyRun_of_inRange {start count : Byte} (hs : start.toNat ≤ 63) (h1 : 1 ≤ count.toNat) (h8 : count.toNat ≤ 8)
    (h : start.toNat + count.toNat ≤ 64) :
    readKeyRun [start, count] =
      .ok ((List.range count.toNat).map fun i => (Fin.ofNat 64 (start.toNat + i) : KeyIndex)) := by
  rw [readKeyRun, if_pos ⟨hs, h1, h8, h⟩, keysOfRun_eq h]

theorem readKeyRun_of_not_inRange {start count : Byte}
    (h : 63 < start.toNat ∨ count.toNat = 0 ∨ 8 < count.toNat ∨ 64 < start.toNat + count.toNat) :
    readKeyRun [start, count] = .error .range :=
  if_neg (by omega)

theorem readKeyRun_of_length_ne {p : List Byte} (h : p.length ≠ 2) : readKeyRun p = .error .badLength := by
  unfold readKeyRun
  split
  · exact absurd rfl h
  · rfl

theorem readChordSlot_of_length_ne {p : List Byte} (h : p.length ≠ 1) : readChordSlot p = .error .badLength := by
  unfold readChordSlot
  split
  · exact absurd rfl h
  · rfl

/-- GET_KEYMAP at a request that fails a check (R35). -/
theorem exec_getKeymap_refused {r : Frame} {rest : List Frame} {s : State} (hs : s.serves 0x06#8 r rest)
    {code : ResultCode} (h : readKeyRun r.payload = .error code) :
    exec .getKeymap s = .next (s.replied r rest [code.byte]) :=
  whenServing_answer_refused (fields := fun r _ => readKeyRun r.payload) hs h

/-- GET_KEYMAP at a request that names a run (R35). -/
theorem exec_getKeymap_read {r : Frame} {rest : List Frame} {s : State} (hs : s.serves 0x06#8 r rest)
    {run : List KeyIndex} (h : readKeyRun r.payload = .ok run) :
    exec .getKeymap s = .next (s.replied r rest (0x00#8 :: run.flatMap s.mapFields)) :=
  whenServing_answer_read (fields := fun r _ => readKeyRun r.payload) hs h

/-- GET_CHORD at a request that fails a check (R70). -/
theorem exec_getChord_refused {r : Frame} {rest : List Frame} {s : State} (hs : s.serves 0x09#8 r rest)
    {code : ResultCode} (h : readChordSlot r.payload = .error code) :
    exec .getChord s = .next (s.replied r rest [code.byte]) :=
  whenServing_answer_refused (fields := fun r _ => readChordSlot r.payload) hs h

/-- GET_CHORD at a request that names a slot (R70). -/
theorem exec_getChord_read {r : Frame} {rest : List Frame} {s : State} (hs : s.serves 0x09#8 r rest)
    {i : SlotIndex} (h : readChordSlot r.payload = .ok i) :
    exec .getChord s = .next (s.replied r rest (0x00#8 :: chordFields i s.chords.slots[i])) :=
  whenServing_answer_read (fields := fun r _ => readChordSlot r.payload) hs h

/-- Settles O37: both requests only read (`whenServing_answer_read`), once their payload passes its checks. -/
theorem tableReadsReportAndChangeNothing : Obligations.TableReadsReportAndChangeNothing := by
  unfold Obligations.TableReadsReportAndChangeNothing
  intro r rest s byte bit entry
  have fields : ∀ k, s.mapFields k = entry k := fun k => by rw [State.mapFields, mapFlags_eq]; rfl
  refine ⟨fun hs => ⟨fun start count hp => ⟨fun h63 h1 h8 h64 => ?_, fun out => ?_⟩, fun length => ?_⟩,
    fun hs => ⟨fun i hp => ?_, fun b hp out => ?_, fun length => ?_⟩⟩
  · rw [exec_getKeymap_read hs (hp ▸ readKeyRun_of_inRange h63 h1 h8 h64), List.flatMap_map]
    simp only [fields]
    rfl
  · exact exec_getKeymap_refused hs (hp ▸ readKeyRun_of_not_inRange out)
  · exact exec_getKeymap_refused hs (readKeyRun_of_length_ne length)
  · have slot : readChordSlot r.payload = .ok i := by
      rw [hp]
      exact congrArg orRange (readSlot_natByte i)
    rw [exec_getChord_read hs slot]
    refine ⟨fun c hc => ?_, fun hc => ?_⟩ <;> rw [hc] <;> rfl
  · have slot : readChordSlot r.payload = .error .range := by
      rw [hp]
      exact congrArg orRange (readSlot_of_lt out)
    exact exec_getChord_refused hs slot
  · exact exec_getChord_refused hs (readChordSlot_of_length_ne length)

/-! ### SET_KEYMAP (R32, R33) -/

/-- The three bytes of an entry, in range, as the map entry of its key (R32). -/
def namedEntry (e : Byte × Byte × Byte) : KeyIndex × KeyMapEntry :=
  (Fin.ofNat 64 e.1.toNat,
   { code := e.2.1, enabled := e.2.2.getLsbD 0, repeats := e.2.2.getLsbD 1, releaseReport := e.2.2.getLsbD 2,
     holdReport := e.2.2.getLsbD 3 })

/-- A key index up to 63, and no bit that names nothing (R32, check 2). -/
def EntryInRange (e : Byte × Byte × Byte) : Prop :=
  e.1.toNat ≤ 63 ∧ e.2.2.toNat ≤ 15

theorem readMapEntry_of_inRange {e : Byte × Byte × Byte} (h : EntryInRange e) :
    readMapEntry e.1 e.2.1 e.2.2 = some (namedEntry e) := by
  obtain ⟨key, flags⟩ := h
  have named : e.2.2.toNat < 2 ^ 4 := by omega
  simp [readMapEntry, readKey_of_le key, readFlags_of_lt named, namedEntry]

theorem readMapEntry_some {e : Byte × Byte × Byte} {x : KeyIndex × KeyMapEntry}
    (h : readMapEntry e.1 e.2.1 e.2.2 = some x) : EntryInRange e := by
  simp only [readMapEntry, Option.bind_eq_bind, Option.bind_eq_some_iff] at h
  obtain ⟨k, hk, f, hf, -⟩ := h
  have named := readFlags_some hf
  exact ⟨readKey_some hk, by omega⟩

/-- Whole entries are read back as they were written down. -/
theorem chunks3_flatMap (entries : List (Byte × Byte × Byte)) :
    chunks3 (entries.flatMap fun e => [e.1, e.2.1, e.2.2]) = some entries := by
  induction entries with
  | nil => rfl
  | cons e rest ih => simp [chunks3, ih]

/-- A payload of whole entries is three bytes long for each of them. -/
theorem length_of_chunks3 {p : List Byte} {raw : List (Byte × Byte × Byte)} (h : chunks3 p = some raw) :
    p.length = 3 * raw.length := by
  induction p using chunks3.induct generalizing raw with
  | case1 =>
    obtain rfl : [] = raw := Option.some.inj h
    rfl
  | case2 k c f rest ih =>
    obtain ⟨entries, he, rfl⟩ := Option.map_eq_some_iff.1 h
    simp only [List.length_cons, ih he]
    omega
  | case3 p h1 h2 => simp [chunks3] at h

/-- A list read element by element, each of which can be read. -/
theorem mapM_eq_some_map {α β : Type} {f : α → Option β} {g : α → β} {l : List α} (h : ∀ a ∈ l, f a = some (g a)) :
    l.mapM f = some (l.map g) := by
  induction l with
  | nil => rfl
  | cons a rest ih =>
    rw [List.mapM_cons, h a List.mem_cons_self, ih fun b hb => h b (List.mem_cons_of_mem _ hb)]
    rfl

/-- If a list can be read element by element, each of them can be read. -/
theorem of_mapM_eq_some {α β : Type} {f : α → Option β} {l : List α} {out : List β} (h : l.mapM f = some out) {a : α}
    (ha : a ∈ l) : ∃ b, f a = some b := by
  induction l generalizing out with
  | nil => cases ha
  | cons x rest ih =>
    rw [List.mapM_cons] at h
    obtain ⟨b, hb, h⟩ := Option.bind_eq_some_iff.1 h
    obtain ⟨tail, ht, -⟩ := Option.bind_eq_some_iff.1 h
    rcases List.mem_cons.1 ha with rfl | ha
    · exact ⟨b, hb⟩
    · exact ih ht ha

/-- The payload of 1 to 8 whole entries (R32, check 1) leaves the range check of each. -/
theorem readKeymap_of_entries {entries : List (Byte × Byte × Byte)} (h1 : 1 ≤ entries.length)
    (h8 : entries.length ≤ 8) :
    readKeymap (entries.flatMap fun e => [e.1, e.2.1, e.2.2]) =
      orRange (entries.mapM fun e => readMapEntry e.1 e.2.1 e.2.2) := by
  have whole : ¬ (entries.length = 0 ∨ 8 < entries.length) := by omega
  unfold readKeymap
  rw [chunks3_flatMap]
  exact if_neg whole

theorem readKeymap_of_inRange {entries : List (Byte × Byte × Byte)} (h1 : 1 ≤ entries.length)
    (h8 : entries.length ≤ 8)
    (h : ∀ e ∈ entries, EntryInRange e) :
    readKeymap (entries.flatMap fun e => [e.1, e.2.1, e.2.2]) = .ok (entries.map namedEntry) := by
  rw [readKeymap_of_entries h1 h8, mapM_eq_some_map fun e he => readMapEntry_of_inRange (h e he)]
  rfl

theorem readKeymap_of_not_inRange {entries : List (Byte × Byte × Byte)} (h1 : 1 ≤ entries.length)
    (h8 : entries.length ≤ 8) (h : ¬ ∀ e ∈ entries, EntryInRange e) :
    readKeymap (entries.flatMap fun e => [e.1, e.2.1, e.2.2]) = .error .range := by
  rw [readKeymap_of_entries h1 h8]
  cases hr : entries.mapM fun e => readMapEntry e.1 e.2.1 e.2.2 with
  | none => rfl
  | some out =>
    refine absurd (fun e he => ?_) h
    obtain ⟨x, hx⟩ := of_mapM_eq_some hr he
    exact readMapEntry_some hx

/-- A payload that is not 1 to 8 whole entries (R32, check 1). -/
theorem readKeymap_of_badLength {p : List Byte} (h : p.length % 3 ≠ 0 ∨ p = [] ∨ 24 < p.length) :
    readKeymap p = .error .badLength := by
  unfold readKeymap
  split
  next => rfl
  next raw hr =>
    have length := length_of_chunks3 hr
    have wrong : raw.length = 0 ∨ 8 < raw.length := by
      rcases h with h | rfl | h
      · omega
      · exact .inl (by simpa using length.symm)
      · omega
    rw [if_pos wrong]

/-- After SET_KEYMAP's writes a key has the last entry that names it, or the one it had (R33). -/
theorem writeMap_mapEntry_eq (entries : List (KeyIndex × KeyMapEntry)) (s : State) (k : KeyIndex) :
    (writeMap entries s).mapEntry k =
      ((entries.filter fun e => e.1 = k).getLast?.map Prod.snd).getD (s.mapEntry k) := by
  have writes : ∀ m : Vector KeyMapEntry 64, (entries.foldl (fun m e => m.set e.1 e.2) m)[k] =
      ((entries.filter fun e => e.1 = k).getLast?.map Prod.snd).getD m[k] := by
    intro m
    induction entries using List.reverseRecOn with
    | nil => rfl
    | append_singleton older e ih =>
      rw [List.foldl_append, List.foldl_cons, List.foldl_nil, List.filter_append, List.getLast?_append]
      by_cases he : e.1 = k
      · subst he
        simp
      · have other : e.1.val ≠ k.val := fun hv => he (Fin.ext hv)
        simpa [he, other] using ih
  exact writes s.keys.map

/-- The entry that stands for a key is the last one whose index byte names it (R33). -/
theorem writeMap_namedEntries {entries : List (Byte × Byte × Byte)} (h : ∀ e ∈ entries, EntryInRange e) (s : State)
    (k : KeyIndex) :
    (writeMap (entries.map namedEntry) s).mapEntry k =
      ((entries.filter fun e => e.1.toNat = k.val).getLast?.map fun e => (namedEntry e).2).getD (s.mapEntry k) := by
  have names : ∀ e ∈ entries, decide ((namedEntry e).1 = k) = decide (e.1.toNat = k.val) := fun e he => by
    have value : (namedEntry e).1.val = e.1.toNat := Nat.mod_eq_of_lt (by have := (h e he).1; omega)
    rw [decide_eq_decide, ← value, Fin.ext_iff]
  rw [writeMap_mapEntry_eq, List.filter_map, List.getLast?_map, Option.map_map]
  exact congrArg (fun l => (Option.map (fun e => (namedEntry e).2) (List.getLast? l)).getD (s.mapEntry k))
    (List.filter_congr names)

/-- SET_KEYMAP at a request that fails a check (R32). -/
theorem exec_setKeymap_refused {r : Frame} {rest : List Frame} {s : State} (hs : s.serves 0x05#8 r rest)
    {code : ResultCode} (h : checkKeymap r.payload { s with dispatch.requests := rest } = .error code) :
    exec .setKeymap s = .next (s.replied r rest [code.byte]) :=
  whenServing_answer_refused (fields := fun r u => checkKeymap r.payload u) hs h

/-- SET_KEYMAP at a request that passes every check (R33). -/
theorem exec_setKeymap_accepted {r : Frame} {rest : List Frame} {s : State} (hs : s.serves 0x05#8 r rest)
    {entries : List (KeyIndex × KeyMapEntry)}
    (h : checkKeymap r.payload { s with dispatch.requests := rest } = .ok entries) :
    exec .setKeymap s = .next { s.replied r rest [0x00#8] with keys := (writeMap entries s).keys } :=
  whenServing_answer_accepted (fields := fun r u => checkKeymap r.payload u) hs h rfl rfl

/-- A payload whose length or range check fails is refused before any key is looked at (R32). -/
theorem checkKeymap_of_error {p : List Byte} {s : State} {code : ResultCode} (h : readKeymap p = .error code) :
    checkKeymap p s = .error code := by
  simp only [checkKeymap, h]

/-- A payload read is checked for the state of every key it names (R32, check 3). -/
theorem checkKeymap_of_ok {p : List Byte} {s : State} {entries : List (KeyIndex × KeyMapEntry)}
    (h : readKeymap p = .ok entries) :
    checkKeymap p s = if s.namedKeysUp entries then .ok entries else .error .keyActive := by
  simp only [checkKeymap, h]

/-- Every key that the entries name is UP (R32, check 3). -/
theorem namedKeysUp_iff (s : State) (entries : List (Byte × Byte × Byte)) :
    s.namedKeysUp (entries.map namedEntry) = true ↔
      ∀ e ∈ entries, (s.record (Fin.ofNat 64 e.1.toNat)).phase = .up := by
  simp only [State.namedKeysUp, List.all_map, List.all_eq_true, Function.comp_apply, beq_iff_eq]
  exact Iff.rfl

/-- Settles O41: the three checks in their order (`readKeymap_of_badLength`, `readKeymap_of_not_inRange`,
`checkKeymap_of_ok`), and the writes by `writeMap_namedEntries`. -/
theorem setKeymapWritesUpKeysOnly : Obligations.SetKeymapWritesUpKeysOnly := by
  unfold Obligations.SetKeymapWritesUpKeysOnly
  intro r rest s hs
  refine ⟨fun entries hp h1 h8 => ?_, fun length => ?_⟩
  · intro inRange allUp last
    have checked (ranged : inRange) : checkKeymap r.payload { s with dispatch.requests := rest } = _ :=
      checkKeymap_of_ok (hp ▸ readKeymap_of_inRange h1 h8 ranged)
    refine ⟨fun ranged up => ?_, fun ranged active => ?_, fun wrong => ?_⟩
    · have accepted := (checked ranged).trans (if_pos ((namedKeysUp_iff _ entries).2 up))
      refine ⟨_, exec_setKeymap_accepted hs accepted, rfl, fun k => ?_⟩
      refine (writeMap_namedEntries ranged s k).trans ?_
      simp only [last]
      cases (entries.filter fun e => e.1.toNat = k.val).getLast? <;> rfl
    · have refused := (checked ranged).trans (if_neg (mt (namedKeysUp_iff _ entries).1 active))
      exact exec_setKeymap_refused hs refused
    · have refused := readKeymap_of_not_inRange h1 h8 wrong
      rw [← hp] at refused
      exact exec_setKeymap_refused hs (code := .range) (checkKeymap_of_error refused)
  · exact exec_setKeymap_refused hs (checkKeymap_of_error (readKeymap_of_badLength length))

end Sys2Proof.Machine
end

section
/-!
Obligation O54, the key path. The down-set is sound as long as its list and, key by key, being held down change
together. Both do only where a press is admitted and where a release is confirmed (R43, R44); every other operation of
the key path leaves both.
-/
namespace Sys2Proof.Machine

theorem isHeldDown_congr {r r' : KeyRecord} (h : r'.phase = r.phase) : r'.isHeldDown = r.isHeldDown := by
  unfold KeyRecord.isHeldDown; rw [h]

/-! ### The down-set from its parts -/

/-- The invariant reads the list, which keys are held down, the limit, and the phases of a sleeping part. -/
theorem DownSetSound.of_heldDown {s t : State} (h : DownSetSound s) (downSet : t.keys.downSet = s.keys.downSet)
    (held : ∀ k, (t.record k).isHeldDown = (s.record k).isHeldDown) (config : t.scan.config = s.scan.config)
    (asleep : t.power.state = .asleep → ∀ k, (t.record k).phase = .up) : DownSetSound t where
  once := by rw [downSet]; exact h.once
  exactly k := by rw [downSet, held]; exact h.exactly k
  limit := by rw [downSet, config]; exact h.limit
  asleep := asleep

/-- A step that leaves every key's phase, and does not put the part to sleep, leaves the down-set sound. -/
theorem DownSetSound.of_phase {s t : State} (h : DownSetSound s) (downSet : t.keys.downSet = s.keys.downSet)
    (phase : ∀ k, (t.record k).phase = (s.record k).phase) (config : t.scan.config = s.scan.config)
    (power : t.power.state = .asleep → s.power.state = .asleep) : DownSetSound t :=
  h.of_heldDown downSet (fun k => isHeldDown_congr (phase k)) config
    fun ha k => (phase k).trans (h.asleep (power ha) k)

theorem DownSetSound.congr {s t : State} (h : DownSetSound s) (downSet : t.keys.downSet = s.keys.downSet)
    (table : t.keys.table = s.keys.table) (config : t.scan.config = s.scan.config)
    (power : t.power.state = .asleep → s.power.state = .asleep) : DownSetSound t :=
  h.of_phase downSet (fun k => by unfold State.record; rw [table]) config power

/-- With every key UP the down-set is empty (R44). -/
theorem DownSetSound.eq_nil_of_allUp {s : State} (h : DownSetSound s) (up : ∀ k, (s.record k).phase = .up) :
    s.keys.downSet = [] := by
  refine List.eq_nil_iff_forall_not_mem.2 fun k hk => ?_
  have down := (h.exactly k).1 hk
  simp [KeyRecord.isHeldDown, up k] at down

/-- An empty down-set with every key UP is sound under every limit and in every power state (R44, R45). -/
theorem downSetSound_of_allUp {s : State} (empty : s.keys.downSet = []) (up : ∀ k, (s.record k).phase = .up) :
    DownSetSound s where
  once := by rw [empty]; exact List.nodup_nil
  exactly k := by simp [empty, KeyRecord.isHeldDown, up k]
  limit := by simp [empty]
  asleep _ := up

/-! ### What leaves the down-set's list as it is -/

theorem markChorded_downSet (keys : List KeyIndex) (s : State) :
    (keys.foldl markChorded s).keys.downSet = s.keys.downSet := by
  induction keys generalizing s with
  | nil => rfl
  | cons k rest ih => exact ih (markChorded s k)

theorem flushHeld_downSet (s : State) : (flushHeld s).keys.downSet = s.keys.downSet :=
  congrArg KeyBlock.downSet (flushHeld_frame s).2.1

theorem completeChord_downSet (slot : SlotIndex) (record : ChordSlot) (s : State) :
    (completeChord slot record s).keys.downSet = s.keys.downSet :=
  markChorded_downSet s.heldKeys _

theorem decideChord_downSet (s : State) : (decideChord s).keys.downSet = s.keys.downSet := by
  rcases decideChord_cases s with ⟨slot, record, -, h⟩ | h | h <;> rw [h]
  · exact completeChord_downSet slot record s
  · exact flushHeld_downSet s

theorem expireWindow_downSet (s : State) : (expireWindow s).keys.downSet = s.keys.downSet := by
  unfold expireWindow
  split
  · exact completeChord_downSet _ _ s
  · exact flushHeld_downSet s

/-- A held list settled leaves every key's phase (R57 to R59). -/
theorem HeldSettled.phase {s t : State} (h : HeldSettled s t) (k : KeyIndex) :
    (t.record k).phase = (s.record k).phase := by
  obtain ⟨marked, -, record, -⟩ := h
  rw [record]
  split <;> rfl

/-- An operation of the key path that settles the held list and leaves the down-set's list. -/
theorem DownSetSound.settled {s t : State} (h : DownSetSound s) (f : KeyPathFrame s t) (settled : HeldSettled s t)
    (downSet : t.keys.downSet = s.keys.downSet) : DownSetSound t :=
  h.of_phase downSet settled.phase (congrArg ScanBlock.config f.scan) fun ha => by rwa [f.power] at ha

theorem flushHeld_downSetSound {s : State} (h : DownSetSound s) : DownSetSound (flushHeld s) :=
  h.settled (flushHeld_frame s).1 (flushHeld_settled s) (flushHeld_downSet s)

theorem expireWindow_downSetSound {s : State} (h : DownSetSound s) : DownSetSound (expireWindow s) :=
  h.settled (expireWindow_frame s).1 (expireWindow_settled s) (expireWindow_downSet s)

/-! ### Admission and release (R27, R43) -/

/-- An admitted key stands at the newest end of the down-set (R43). -/
theorem admitKey_downSet (k : KeyIndex) (s : State) : (admitKey k s).keys.downSet = s.keys.downSet ++ [k] := by
  unfold admitKey
  simp only
  split
  · exact decideChord_downSet _
  · rw [(handPress_keys ..).1]
    split
    · rfl
    · exact flushHeld_downSet _

/-- An admitted key is held down, and every other key is as it was (R43). -/
theorem admitKey_heldDown (k : KeyIndex) (s : State) (l : KeyIndex) :
    ((admitKey k s).record l).isHeldDown = if l = k then true else (s.record l).isHeldDown := by
  obtain ⟨marked, -, record, -⟩ := admitKey_records k s
  have phase : ((admitKey k s).record l).phase = ((takeIntoDownSet k s).record l).phase := by
    rw [record]; split <;> rfl
  rw [isHeldDown_congr phase, takeIntoDownSet_record]
  split <;> rfl

/-- A key that is not held down finds room in the down-set and is admitted (R42, R43, R44). -/
theorem admitKey_downSetSound {k : KeyIndex} {s : State} (h : DownSetSound s) (awake : s.power.state ≠ .asleep)
    (free : (s.record k).isHeldDown = false) (room : s.keys.downSet.length < s.scan.config.limit) :
    DownSetSound (admitKey k s) := by
  have f := admitKey_frame k s
  have outside : k ∉ s.keys.downSet := fun hk => by simp [(h.exactly k).1 hk] at free
  refine ⟨?_, fun l => ?_, ?_, fun ha => absurd ha (by rwa [f.power])⟩
  · rw [admitKey_downSet, ← List.concat_eq_append]
    exact h.once.concat outside
  · rw [admitKey_downSet, admitKey_heldDown, List.mem_append, List.mem_singleton, h.exactly]
    by_cases hl : l = k <;> simp [hl]
  · rw [admitKey_downSet, f.scan, List.length_append]
    exact room

/-- A released key has left the down-set (R27). -/
theorem releaseKey_downSet (k : KeyIndex) (s : State) :
    (releaseKey k s).keys.downSet = s.keys.downSet.erase k := by
  unfold releaseKey
  simp only
  rw [endRepeatHold_eq, reportRelease_eq]
  split
  · exact flushHeld_downSet (leaveDownSet k s)
  · rfl

theorem releaseKey_heldDown (k : KeyIndex) (s : State) (l : KeyIndex) :
    ((releaseKey k s).record l).isHeldDown = if l = k then false else (s.record l).isHeldDown := by
  rw [releaseKey_record]
  split <;> rfl

theorem releaseKey_downSetSound {k : KeyIndex} {s : State} (h : DownSetSound s) (awake : s.power.state ≠ .asleep) :
    DownSetSound (releaseKey k s) := by
  have f := releaseKey_frame k s
  refine ⟨?_, fun l => ?_, ?_, fun ha => absurd ha (by rwa [f.power])⟩
  · rw [releaseKey_downSet]
    exact h.once.erase k
  · rw [releaseKey_downSet, releaseKey_heldDown, h.once.mem_erase_iff, h.exactly]
    by_cases hl : l = k <;> simp [hl]
  · rw [releaseKey_downSet, f.scan]
    exact List.length_erase_le.trans h.limit

/-! ### The debounce step (R19 to R25) -/

/-- One record rewritten with the key held down as before. -/
theorem setRecord_downSetSound {k : KeyIndex} {r : KeyRecord} {s : State} (h : DownSetSound s)
    (awake : s.power.state ≠ .asleep) (held : r.isHeldDown = (s.record k).isHeldDown) :
    DownSetSound (s.setRecord k r) := by
  refine h.of_heldDown rfl (fun l => ?_) rfl fun ha => absurd ha awake
  rw [State.setRecord_record_eq]
  split
  next hl => subst hl; exact held
  next => rfl

/-- Press admission of a key that is not held down refuses it, or finds room for it (R36, R42). -/
theorem pressAdmission_downSetSound {k : KeyIndex} {s : State} (h : DownSetSound s) (awake : s.power.state ≠ .asleep)
    (free : (s.record k).isHeldDown = false) : DownSetSound (pressAdmission k s) := by
  have refused : ∀ reason, DownSetSound (blockKey k reason s) := fun reason =>
    setRecord_downSetSound h awake free.symm
  unfold pressAdmission
  split
  · exact (refused .ghost).congr rfl rfl rfl id
  · split
    · exact (refused .rollover).congr rfl rfl rfl id
    next room => exact admitKey_downSetSound h awake free (Nat.lt_of_not_le room)

theorem setPhase_downSetSound {k : KeyIndex} {phase : KeyPhase} {count : Nat} {s : State} (h : DownSetSound s)
    (awake : s.power.state ≠ .asleep)
    (held : ({ s.record k with phase := phase } : KeyRecord).isHeldDown = (s.record k).isHeldDown) :
    DownSetSound (setPhase k phase count s) :=
  setRecord_downSetSound h awake held

theorem closedRun_downSetSound {k : KeyIndex} {count : Nat} {s : State} (h : DownSetSound s)
    (awake : s.power.state ≠ .asleep) (free : (s.record k).isHeldDown = false) :
    DownSetSound (closedRun k count s) := by
  unfold closedRun
  split
  · exact pressAdmission_downSetSound h awake free
  · exact setPhase_downSetSound h awake free.symm

theorem openRun_downSetSound {k : KeyIndex} {count : Nat} {s : State} (h : DownSetSound s)
    (awake : s.power.state ≠ .asleep) (down : (s.record k).isHeldDown = true) : DownSetSound (openRun k count s) := by
  unfold openRun
  split
  · exact releaseKey_downSetSound h awake
  · exact setPhase_downSetSound h awake down.symm

theorem blockedRun_downSetSound {k : KeyIndex} {count : Nat} {s : State} (h : DownSetSound s)
    (awake : s.power.state ≠ .asleep) (free : (s.record k).isHeldDown = false) :
    DownSetSound (blockedRun k count s) := by
  unfold blockedRun
  split
  · exact setRecord_downSetSound h awake free.symm
  · exact setPhase_downSetSound h awake free.symm

/-- A debounce step moves a key between UP, MAKING and BLOCKED, or between DOWN and BREAKING, but for admission and
release (R19 to R25). -/
theorem debounceStep_downSetSound {k : KeyIndex} {s : State} (h : DownSetSound s) (awake : s.power.state ≠ .asleep) :
    DownSetSound (debounceStep k s) := by
  have phased : ∀ p, (s.record k).phase = p →
      (s.record k).isHeldDown = ({ s.record k with phase := p } : KeyRecord).isHeldDown := fun p hp =>
    isHeldDown_congr (r := { s.record k with phase := p }) hp
  by_cases hb : (s.record k).phase = .blocked
  · have free : (s.record k).isHeldDown = false := phased _ hb
    rw [debounceStep_of_blocked hb]
    split
    · exact setPhase_downSetSound h awake free.symm
    · exact blockedRun_downSetSound h awake free
  cases he : (s.mapEntry k).enabled with
  | false => rw [debounceStep_of_disabled he hb]; exact h
  | true =>
    cases hp : (s.record k).phase with
    | up =>
      have free : (s.record k).isHeldDown = false := phased _ hp
      rw [debounceStep_of_up he hp]
      split
      · exact closedRun_downSetSound h awake free
      · exact setPhase_downSetSound h awake free.symm
    | making =>
      have free : (s.record k).isHeldDown = false := phased _ hp
      rw [debounceStep_of_making he hp]
      split
      · exact closedRun_downSetSound h awake free
      · exact setPhase_downSetSound h awake free.symm
    | down =>
      have down : (s.record k).isHeldDown = true := phased _ hp
      rw [debounceStep_of_down he hp]
      split
      · exact setPhase_downSetSound h awake down.symm
      · exact openRun_downSetSound h awake down
    | breaking =>
      have down : (s.record k).isHeldDown = true := phased _ hp
      rw [debounceStep_of_breaking he hp]
      split
      · exact setPhase_downSetSound h awake down.symm
      · exact openRun_downSetSound h awake down
    | blocked => exact absurd hp hb

/-! ### The sample event (R5) -/

theorem debounceSteps_downSetSound (p : Position) (lines : List ReturnLine) {s : State} (h : DownSetSound s)
    (awake : s.power.state ≠ .asleep) :
    DownSetSound (lines.foldl (fun s l => debounceStep (keyAt p l) s) s) := by
  induction lines generalizing s with
  | nil => exact h
  | cons l rest ih =>
    exact ih (debounceStep_downSetSound h awake) (by rwa [(debounceStep_frame (keyAt p l) s).power])

theorem sampleEvent_downSetSound {p : Position} {s : State} (h : DownSetSound s) (awake : s.power.state ≠ .asleep) :
    DownSetSound (sampleEvent p s) := by
  have phase : ∀ k, ((allLines.foldl (updateContact p) s).record k).phase = (s.record k).phase := fun k => by
    rw [(updateContacts_record p allLines s k).1]
  obtain ⟨table, e⟩ := updateContacts_frame p allLines s
  unfold sampleEvent
  rw [e] at phase ⊢
  exact debounceSteps_downSetSound p allLines (h.of_phase rfl phase rfl id) awake

end Sys2Proof.Machine
end

section
/-!
Obligation O54, from the sample event to every step. Only the key sample of a SLOT_END and the resets touch the
down-set's list; a wake and an applied configuration, which write the key records, meet a part whose keys are all UP.
-/
namespace Sys2Proof.Machine

/-! ### SLOT_END (R4, R13, R164) -/

theorem applyConfig_phase (c : ScanConfig) (s : State) (k : KeyIndex) :
    ((applyConfig c s).record k).phase = (s.record k).phase := by
  simp only [applyConfig, State.record, contactsApplied, Fin.getElem_fin, Vector.getElem_ofFn]
  split <;> rfl

/-- A configuration is applied with every key UP, so that its limit meets an empty down-set (R13, R44). -/
theorem applyConfig_downSetSound {c : ScanConfig} {s : State} (h : DownSetSound s) (up : s.allUp = true) :
    DownSetSound (applyConfig c s) := by
  have up := (allUp_iff s).1 up
  exact downSetSound_of_allUp ((applyConfig_downSet c s).trans (h.eq_nil_of_allUp up)) fun k =>
    (applyConfig_phase c s k).trans (up k)

theorem settlePending_downSetSound {s : State} (h : DownSetSound s) : DownSetSound (settlePending s) := by
  have taken : DownSetSound { s with scan.pendingScan := none } := h.congr rfl rfl rfl id
  rcases settlePending_cases s with ⟨-, e⟩ | ⟨q, -, ⟨up, e⟩ | ⟨-, e⟩⟩ <;> rw [e]
  · exact h
  · exact (applyConfig_downSetSound taken up).congr rfl rfl rfl id
  · exact taken.congr rfl rfl rfl id

theorem endSlot_downSetSound {s : State} (h : DownSetSound s) (awake : s.power.state ≠ .asleep) :
    DownSetSound (endSlot s) := by
  have sampled : DownSetSound (if s.scan.config.keyScanning then sampleEvent s.scan.slotIndex s else s) := by
    split
    · exact sampleEvent_downSetSound h awake
    · exact h
  have released := sampled.congr (t := releaseSlot _) rfl rfl rfl id
  rw [endSlot_eq]
  split
  · exact settlePending_downSetSound released
  · exact released

theorem takeReading_downSetSound {returns : Byte} {s : State} (h : DownSetSound s) :
    DownSetSound (takeReading returns s) := by
  have present : DownSetSound (presentReturns returns s) := h.congr rfl rfl rfl id
  rcases takeReading_cases returns s with ⟨awake, -, e⟩ | ⟨p, awake, -, -, e⟩ | ⟨-, e⟩ <;> rw [e]
  · exact endSlot_downSetSound present awake
  · exact sampleEvent_downSetSound (s := { presentReturns returns s with scan.cutSlot := none })
      (present.congr rfl rfl rfl id) awake
  · exact h

/-! ### Wake, sleep and the link side -/

theorem LinkSideFrame.downSetSound {s t : State} (f : LinkSideFrame s t) (h : DownSetSound s) : DownSetSound t :=
  h.congr (congrArg KeyBlock.downSet f.keys) (congrArg KeyBlock.table f.keys) (congrArg ScanBlock.config f.scan)
    fun ha => by rwa [f.power] at ha

/-- A wake meets a sleeping part, whose keys are all UP, and leaves them so (R31, R136). -/
theorem wakePart_downSetSound {cause : WakeCause} {s : State} (h : DownSetSound s) (hs : s.power.state = .asleep) :
    DownSetSound (wakePart cause s) :=
  downSetSound_of_allUp (h.eq_nil_of_allUp (h.asleep hs)) fun k => by simp [State.record, wakePart, upRecord]

theorem byteArrives_downSetSound {s : State} (h : DownSetSound s) : DownSetSound (byteArrives s) := by
  unfold byteArrives
  split
  · exact h
  · exact h.congr rfl rfl rfl id
  next hs => exact wakePart_downSetSound h hs

/-- The part falls asleep with every key UP (R132). -/
theorem checkSleepEntry_downSetSound {s : State} (h : DownSetSound s) : DownSetSound (checkSleepEntry s) := by
  unfold checkSleepEntry
  split
  · exact h.congr rfl rfl rfl nofun
  next clear =>
    have up : s.allUp = true := by
      by_contra down
      simp only [State.sleepObstacle, Bool.eq_false_of_not_eq_true down, Bool.not_false, Bool.true_or, if_true] at clear
      split at clear <;> cases clear
    have up := (allUp_iff s).1 up
    exact downSetSound_of_allUp (h.eq_nil_of_allUp up) up

theorem downSetSound_of_reset {s : State} (h : s.keys = resetKeys) : DownSetSound s :=
  downSetSound_of_allUp (by rw [h]; rfl) fun k => by simp [State.record, h, resetKeys, upRecord]

theorem endTransmission_downSetSound {f : TxFrame} {s : State} (h : DownSetSound s) :
    DownSetSound (endTransmission f s) := by
  have idle : DownSetSound { s with link.tx := none } := h.congr rfl rfl rfl id
  rcases endTransmission_cases f s with ⟨-, e⟩ | ⟨-, -, -, e⟩ | ⟨-, -, e⟩ | e <;> rw [e]
  · exact (noticeSent_linkSide _ _).1.downSetSound idle
  · exact downSetSound_of_reset rfl
  · exact checkSleepEntry_downSetSound idle
  · exact idle

theorem sweepOnce_downSetSound {s : State} (h : DownSetSound s) (due : s.sweepDue = true) :
    DownSetSound (sweepOnce s) := by
  simp only [State.sweepDue, Bool.and_eq_true, beq_iff_eq] at due
  obtain ⟨⟨asleep, -⟩, -⟩ := due
  have driven : DownSetSound (sweepLines s) := h.congr rfl rfl rfl id
  unfold sweepOnce settleSweep
  split
  · exact wakePart_downSetSound driven asleep
  · exact driven.congr rfl rfl rfl id

/-! ### Events -/

theorem takeSample_downSetSound {ch : Channel} {s : State} (h : DownSetSound s) : DownSetSound (takeSample ch s) := by
  unfold takeSample
  simp only
  split <;> exact h.congr (by simp) (by simp) (by simp) (by simp)

/-- An expired coalescing timer is stopped, and may wake a sleeping part (R102, R105). -/
theorem expireCoalescing_downSetSound {ch : Channel} {s : State} (h : DownSetSound s) :
    DownSetSound (expireCoalescing ch s) := by
  have stopped : DownSetSound (s.setChannel ch { s.channel ch with timer := none }) :=
    h.congr (by simp) (by simp) (by simp) (by simp)
  unfold expireCoalescing
  simp only
  split
  next wakes => exact wakePart_downSetSound stopped (by simpa using wakes.1)
  next => exact stopped

theorem composeNotice_downSetSound {s : State} (h : DownSetSound s) : DownSetSound (composeNotice s) := by
  obtain ⟨-, scan, -, -, keys, -, power⟩ := composeNotice_frame s
  exact h.congr (congrArg KeyBlock.downSet keys) (congrArg KeyBlock.table keys) (congrArg ScanBlock.config scan)
    fun ha => by rwa [power] at ha

theorem completeHeld_downSetSound {sort : Byte → Bool} {settle : Frame → State → State} {s : State} (h : DownSetSound s)
    (side : ∀ f u, LinkSideFrame u (settle f u)) : DownSetSound (completeHeld sort settle s) := by
  rcases completeHeld_cases sort settle s with e | ⟨f, -, -, e⟩ <;> rw [e]
  · exact h
  · have arrived := byteArrives_downSetSound (s := { s with link.lineHeld := false }) (h.congr rfl rfl rfl id)
    exact ((huntAgain_linkSide _).trans (side f _)).downSetSound arrived

theorem liveStep_downSetSound (c : Instr) {s : State} (h : DownSetSound s) : DownSetSound (liveStep c s) := by
  have present : ∀ pins, DownSetSound (presentEncoderPins pins s) := fun pins => h.congr rfl rfl rfl id
  cases c
  case millisecondTick => exact h.congr rfl rfl rfl id
  case slotEnd returns => exact takeReading_downSetSound h
  case gapTimerExpiry => exact (expireGap_linkSide s).downSetSound h
  case noticeComposition => exact composeNotice_downSetSound h
  case acknowledgementTimerExpiry => exact (expireAck_linkSide s).1.downSetSound h
  case ack =>
    exact completeHeld_downSetSound (sort := fun k => k == ackKind) h fun f u =>
      (settleAck_linkSide f u).trans (reportValidFrame_linkSide _)
  case requestArrival =>
    exact completeHeld_downSetSound (settle := fun f u => { settleArrival f u with link.reportOwed := true }) h
      fun f u => (settleArrival_linkSide f u).trans (by constructor <;> rfl)
  case unknownKindFrame =>
    exact completeHeld_downSetSound (sort := fun k => !isKnownKind k) h fun f u =>
      (settleUnknown_linkSide f u).trans (reportValidFrame_linkSide _)
  case slotStart =>
    simp only [liveStep]
    split
    · exact h.congr rfl rfl rfl id
    · exact h
  case chordWindowExpiry =>
    simp only [liveStep]
    split
    · exact expireWindow_downSetSound h
    · exact h
  case repeatTimerExpiry =>
    simp only [liveStep]
    split
    · split
      · exact h.congr rfl rfl rfl id
      · exact h
    · exact h
  case holdTimerExpiry k =>
    simp only [liveStep]
    split
    · exact h.congr rfl rfl rfl id
    · exact h
  case encoderSample ch q =>
    have presented : DownSetSound (presentPair ch q s) := by cases ch <;> exact h.congr rfl rfl rfl id
    simp only [liveStep]
    split
    · exact takeSample_downSetSound presented
    · exact presented
  case coalescingTimerExpiry ch pins =>
    simp only [liveStep]
    split
    · exact expireCoalescing_downSetSound (present pins)
    · exact present pins
  case encoderPinChange pins =>
    simp only [liveStep]
    split
    next wakes => exact wakePart_downSetSound (present pins) wakes.1
    next => exact present pins
  case blinkTimerExpiry =>
    simp only [liveStep, expireBlink]
    split
    · exact h.congr rfl rfl rfl id
    · exact h
  case testTimerExpiry =>
    simp only [liveStep, expireTest]
    split
    · exact h.congr rfl rfl rfl id
    · exact h
  case wakeSweep returns pins =>
    have presented : DownSetSound (presentEncoderPins pins (presentReturns returns s)) := h.congr rfl rfl rfl id
    simp only [liveStep]
    split
    next due => exact sweepOnce_downSetSound presented due
    next => exact presented
  case receiveByte b sawHigh pins =>
    simp only [liveStep]
    split
    · exact (takeByte_linkSide b _).downSetSound (byteArrives_downSetSound ((present pins).congr rfl rfl rfl id))
    · exact present pins
  case framingError sawHigh pins =>
    simp only [liveStep]
    split
    · exact (takeFramingError_linkSide _).downSetSound (byteArrives_downSetSound (present pins))
    · exact present pins
  case arbiterChoice =>
    simp only [liveStep]
    split
    · exact (chooseFrame_linkSide s).downSetSound h
    · exact h
  case endOfTransmission pins =>
    simp only [liveStep]
    split
    · exact endTransmission_downSetSound (present pins)
    · exact present pins
  all_goals exact h

/-! ### Requests -/

theorem writeChord_downSetSound {q : ChordRequest} {s : State} (h : DownSetSound s) :
    DownSetSound (writeChord q s) := by
  unfold writeChord
  simp only
  split
  · exact h.congr rfl rfl rfl id
  · exact (flushHeld_downSetSound h).congr rfl rfl rfl id

theorem serve_downSetSound {kind : Byte} {execute : Frame → State → State} {s : State} (h : DownSetSound s)
    (hx : ∀ r u, DownSetSound u → DownSetSound (execute r u)) : DownSetSound (serve kind execute s) :=
  serve_keeps h fun r _ _ _ _ => hx r _ (h.congr rfl rfl rfl id)

theorem whenServing_downSetSound {f : State → State} {s t : State} (he : whenServing f s = .next t)
    (h : DownSetSound s) (hf : DownSetSound (f s)) : DownSetSound t := by
  rcases whenServing_next he with ⟨-, rfl⟩ | ⟨-, rfl⟩
  · exact (deliverReport_linkSide _).downSetSound hf
  · exact h

/-- A request answered at execution keeps the down-set sound if its effect does (R157). -/
theorem serve_answer_downSetSound {α : Type} {kind : Byte} {fields : Frame → State → Read α}
    {effect : α → State → State} {reply : α → State → List Byte} {s : State} (h : DownSetSound s)
    (heff : ∀ a u, DownSetSound u → DownSetSound (effect a u)) :
    DownSetSound (serve kind (fun r u => answer (fields r u) effect reply r u) s) :=
  serve_downSetSound h fun r u hu => answer_keeps (fun p => (finishRequest_linkSide r p u).downSetSound hu)
    fun a p _ => (finishRequest_linkSide r p _).downSetSound (heff a u hu)

theorem executeSleep_downSetSound (r : Frame) {u : State} (h : DownSetSound u) : DownSetSound (executeSleep r u) := by
  unfold executeSleep
  split
  · exact h.congr rfl rfl rfl id
  · split
    · exact h.congr rfl rfl rfl nofun
    · exact h.congr rfl rfl rfl id

theorem exec_request_downSetSound {c : Instr} {kind : Byte} {s t : State} (hk : c.requestKind = some kind)
    (h : DownSetSound s) (he : exec c s = .next t) : DownSetSound t := by
  cases c
  case restart =>
    refine whenServing_downSetSound he h (serve_downSetSound h fun r u hu => ?_)
    unfold executeRestart
    split <;> exact hu.congr rfl rfl rfl id
  case setScan =>
    refine whenServing_downSetSound he h (serve_downSetSound h fun r u hu => ?_)
    unfold executeSetScan
    split <;> exact hu.congr rfl rfl rfl id
  case sleep => exact whenServing_downSetSound he h (serve_downSetSound h fun r u => executeSleep_downSetSound r)
  case setChord =>
    exact whenServing_downSetSound he h (serve_answer_downSetSound h fun q u => writeChord_downSetSound)
  case setEncoders pins =>
    have he : execSetEncoders pins s = .next t := he
    unfold execSetEncoders at he
    refine whenServing_downSetSound he h (serve_answer_downSetSound (h.congr rfl rfl rfl id) fun q u hu => ?_)
    unfold setEncoders
    exact hu.congr (by simp) (by simp) (by simp) (by simp)
  case readEncoders =>
    refine whenServing_downSetSound he h (serve_answer_downSetSound h fun clear u hu => ?_)
    cases clear <;> exact hu.congr rfl rfl rfl id
  case getLinkStats =>
    refine whenServing_downSetSound he h (serve_answer_downSetSound h fun clear u hu => ?_)
    cases clear <;> exact hu.congr rfl rfl rfl id
  case setGlyphs =>
    refine whenServing_downSetSound he h (serve_answer_downSetSound h fun (bank, start, patterns) u hu => ?_)
    cases bank <;> exact hu.congr rfl rfl rfl id
  case identify | getStatus | setKeymap | getKeymap | readKeys | getChord | setTiming | flushKeys | writeDisplay |
      setDisplay | displayTest | readDisplay | setNotices =>
    exact whenServing_downSetSound he h (serve_answer_downSetSound h fun _ u hu => hu.congr rfl rfl rfl id)
  all_goals cases hk

/-! ### Every command -/

theorem exec_downSetSound {c : Instr} {s t : State} (h : DownSetSound s) (he : exec c s = .next t) :
    DownSetSound t := by
  cases hk : c.requestKind with
  | some kind => exact exec_request_downSetSound hk h he
  | none =>
    by_cases hreset : ∃ cause spd pins, c = .hardwareReset cause spd pins
    · obtain ⟨cause, spd, pins, rfl⟩ := hreset
      simp only [exec, execHardwareReset] at he
      split at he <;> injection he with he <;> subst he
      · exact downSetSound_of_reset rfl
      · exact h
    by_cases hlow : c = .nrstHeldLow
    · subst hlow
      injection he with he
      subst he
      exact h.congr rfl rfl rfl id
    rw [exec_event hk (fun cause spd pins hc => hreset ⟨cause, spd, pins, hc⟩) hlow] at he
    rcases whenLive_next he with ⟨-, rfl⟩ | ⟨-, rfl⟩
    · exact liveStep_downSetSound c ((deliverReport_linkSide s).downSetSound h)
    · exact h

/-- Settles O54, by `exec_downSetSound` for every command; the down-set alone carries the induction. -/
theorem stepKeepsTheDownSetSound : Obligations.StepKeepsTheDownSetSound := by
  unfold Obligations.StepKeepsTheDownSetSound
  intro s t h hstep
  exact step_keeps (Inv := DownSetSound) (fun _ _ hi => hi.congr rfl rfl rfl id) (fun _ _ _ => exec_downSetSound)
    h.downSet hstep

end Sys2Proof.Machine
end

section
/-!
Obligation O11: press admission, outcome by outcome.
-/
namespace Sys2Proof.Machine

/-! ### The three checks as the rules state them (R37, R42, R53) -/

/-- A ghost completes a rectangle whose three other corners have closed contact flags (R37). -/
theorem isGhost_iff (s : State) (k : KeyIndex) :
    s.isGhost k = true ↔ ∃ (p' : Position) (l' : ReturnLine), p' ≠ keyPosition k ∧ l' ≠ keyLine k ∧
      (s.record (keyAt (keyPosition k) l')).contact = true ∧ (s.record (keyAt p' (keyLine k))).contact = true ∧
        (s.record (keyAt p' l')).contact = true := by
  simp [State.isGhost, State.closed, allPositions, allLines, and_assoc]

/-- A member key is one that some occupied slot's member list holds (R53). -/
theorem isMember_iff (s : State) (k : KeyIndex) :
    s.isMember k = true ↔ ∃ (i : SlotIndex) (c : ChordSlot), s.chords.slots[i] = some c ∧ k ∈ c.members := by
  simp only [State.isMember, ChordBlock.occupied, List.any_eq_true, List.mem_filterMap, Option.map_eq_some_iff,
    List.contains_iff_mem]
  constructor
  · rintro ⟨_, ⟨i, -, c, hc, rfl⟩, hk⟩
    exact ⟨i, c, hc, hk⟩
  · rintro ⟨i, c, hc, hk⟩
    exact ⟨(i, c), ⟨i, List.mem_finRange i, c, hc, rfl⟩, hk⟩

theorem pressAdmission_of_ghost {k : KeyIndex} {s : State} (filter : s.scan.config.ghostFilter = true)
    (ghost : s.isGhost k = true) : pressAdmission k s = countGhost k (blockKey k .ghost s) :=
  if_pos (by rw [filter, ghost]; rfl)

/-- Without a ghost, or with the filter off, the room in the down-set decides (R40, R42). -/
theorem pressAdmission_of_not_ghost {k : KeyIndex} {s : State}
    (clear : ¬ (s.scan.config.ghostFilter = true ∧ s.isGhost k = true)) :
    pressAdmission k s =
      if s.scan.config.limit ≤ s.keys.downSet.length then countRollover k (blockKey k .rollover s) else admitKey k s :=
  if_neg (by simpa using clear)

/-! ### Admission (R43, R73, R77) -/

theorem admitKey_of_member {k : KeyIndex} {s : State} (member : s.isMember k = true) :
    admitKey k s = admitMember k (takeIntoDownSet k s) :=
  if_pos member

/-- A key that is no member key has its PRESS handed on behind the held presses (R43, R60). -/
theorem admitKey_of_not_member {k : KeyIndex} {s : State} (member : s.isMember k = false) :
    admitKey k s = handPress k s.scan.panelTime
      (if s.chords.held = [] then takeIntoDownSet k s else flushHeld (takeIntoDownSet k s)) := by
  have plain : (takeIntoDownSet k s).isMember k = false := member
  unfold admitKey
  simp only [plain, Bool.false_eq_true, if_false, List.isEmpty_iff]
  rfl

theorem beginRepeat_eq (k : KeyIndex) (s : State) :
    beginRepeat k s = { s with
      repeatHold.owner :=
        if (s.mapEntry k).repeats = true then some { key := k, phase := .delay } else s.repeatHold.owner
      repeatHold.timer :=
        if (s.mapEntry k).repeats = true then startTimer s.now s.repeatHold.repeatDelay else s.repeatHold.timer } := by
  unfold beginRepeat
  split <;> rfl

theorem beginHold_eq (k : KeyIndex) (s : State) :
    beginHold k s = { s with
      repeatHold.holdTimers :=
        if (s.mapEntry k).holdReport = true then
          s.repeatHold.holdTimers.set k (startTimer s.now s.repeatHold.holdTime)
        else s.repeatHold.holdTimers } := by
  unfold beginHold
  split <;> rfl

/-- A PRESS handed on, with repeat and hold begun where the key's map entry asks for them, as one update (R43, R73, R77).
-/
theorem handPress_eq (k : KeyIndex) (time : Time) (s : State) :
    handPress k time s = { s with
      queue := appendEvent (.press (s.mapEntry k).code k time) s.queue
      repeatHold.owner :=
        if (s.mapEntry k).repeats = true then some { key := k, phase := .delay } else s.repeatHold.owner
      repeatHold.timer :=
        if (s.mapEntry k).repeats = true then startTimer s.now s.repeatHold.repeatDelay else s.repeatHold.timer
      repeatHold.holdTimers :=
        if (s.mapEntry k).holdReport = true then
          s.repeatHold.holdTimers.set k (startTimer s.now s.repeatHold.holdTime)
        else s.repeatHold.holdTimers } := by
  rw [handPress, beginRepeat_eq, beginHold_eq]
  rfl

/-- Settles O11: the checks in their order (`pressAdmission_of_ghost`, `pressAdmission_of_not_ghost`), and admission by
whether the key is a member key. -/
theorem pressAdmissionOutcomes : Obligations.PressAdmissionOutcomes := by
  unfold Obligations.PressAdmissionOutcomes
  intro k s closed rectangle ghost blocked up
  have ghost_iff : s.scan.config.ghostFilter = true ∧ s.isGhost k = true ↔ ghost := and_congr_right' (isGhost_iff s k)
  refine ⟨fun hg => ?_, fun hg full => ?_, fun hg room => ?_⟩
  · obtain ⟨filter, completes⟩ := ghost_iff.2 hg
    exact pressAdmission_of_ghost filter completes
  · exact (pressAdmission_of_not_ghost (mt ghost_iff.1 hg)).trans (if_pos full)
  intro admitted
  have admission : pressAdmission k s = admitKey k s :=
    (pressAdmission_of_not_ghost (mt ghost_iff.1 hg)).trans (if_neg (Nat.not_le.2 room))
  have plain (other : ∀ (i : SlotIndex) (c : ChordSlot), s.chords.slots[i] = some c → k ∉ c.members) :
      s.isMember k = false := by
    rw [Bool.eq_false_iff, ne_eq, isMember_iff]
    rintro ⟨i, c, hc, hk⟩
    exact other i c hc hk
  rw [admission]
  refine ⟨fun member => ?_, fun other held => ?_, fun other idle => ?_⟩
  · exact admitKey_of_member ((isMember_iff s k).2 member)
  · rw [admitKey_of_not_member (plain other), if_neg held]
    rfl
  · rw [admitKey_of_not_member (plain other), if_pos idle, handPress_eq]
    rfl

end Sys2Proof.Machine
end

section
/-!
Obligation O36: GET_STATUS, READ_KEYS and READ_DISPLAY report their blocks and change nothing.
-/
namespace Sys2Proof.Machine

/-! ### A request that carries no fields and only reads (R49, R127, R160) -/

theorem readNone_of_ne_nil {p : List Byte} (h : p ≠ []) : readNone p = .error .badLength := by
  cases p with
  | nil => exact absurd rfl h
  | cons b rest => rfl

/-- An empty payload is answered OK with the fields read, and any other is refused with BAD_LENGTH (R157). -/
theorem whenServing_readNone {kind : Byte} {reply : State → List Byte} {r : Frame} {rest : List Frame} {s : State}
    (hs : s.serves kind r rest) :
    (r.payload = [] →
      whenServing (serve kind fun r => answer (readNone r.payload) noEffect (fun _ s => reply s) r) s =
        .next (s.replied r rest (0x00#8 :: reply { s with dispatch.requests := rest }))) ∧
    (r.payload ≠ [] →
      whenServing (serve kind fun r => answer (readNone r.payload) noEffect (fun _ s => reply s) r) s =
        .next (s.replied r rest [0x01#8])) :=
  ⟨fun hp => whenServing_answer_read (fields := fun r _ => readNone r.payload) (a := ()) hs (by rw [hp]; rfl),
    fun hp => whenServing_answer_refused (fields := fun r _ => readNone r.payload) hs (readNone_of_ne_nil hp)⟩

/-! ### The fields of the three blocks -/

theorem boolByte_eq (b : Bool) : boolByte b = BitVec.ofNat 8 (if b = true then 2 ^ 0 else 0) := by
  cases b <;> rfl

/-- The pending class set is the sum of its classes' bits (13, "Value tables"). -/
theorem pendingClassBits_eq (s : State) :
    s.pendingClassBits = BitVec.ofNat 8 ((if s.classPending .ready = true then 2 ^ 0 else 0) +
      (if s.classPending .wake = true then 2 ^ 1 else 0) + (if s.classPending .panelFault = true then 2 ^ 2 else 0) +
      (if s.classPending .keys = true then 2 ^ 3 else 0) + (if s.classPending .encoder = true then 2 ^ 4 else 0)) := by
  have bits : ∀ a b c d e : Bool, flagBit a 0 ||| flagBit b 1 ||| flagBit c 2 ||| flagBit d 3 ||| flagBit e 4 =
      BitVec.ofNat 8 ((if a = true then 2 ^ 0 else 0) + (if b = true then 2 ^ 1 else 0) +
        (if c = true then 2 ^ 2 else 0) + (if d = true then 2 ^ 3 else 0) + (if e = true then 2 ^ 4 else 0)) := by decide
  exact bits ..

theorem noticeStateByte_eq (n : NoticeState) : noticeStateByte n = if n = .running then 0x00#8 else 0x01#8 := by
  cases n <;> rfl

theorem reasonByte_eq (reason : Option BlockReason) :
    reasonByte reason = if reason = some .rollover then 0x01#8 else 0x00#8 := by
  rcases reason with _ | _ | _ <;> rfl

theorem blockedKeys_eq (s : State) :
    s.blockedKeys = (List.finRange 64).filter fun k => (s.record k).phase = .blocked :=
  List.filter_congr fun k _ => by cases (s.record k).phase <;> rfl

theorem shownPatterns_eq (s : State) : allPositions.map (fun p => s.display.shown[p]) = s.display.shown.toList := by
  refine List.ext_getElem (by simp [allPositions]) fun i _ _ => ?_
  simp [allPositions]

/-! ### The remaining time of a display test (R127) -/

/-- At the expiry tick 1 ms remains, for the expiry is still to be taken (R126; log 4). -/
theorem timerRemaining_at_expiry (now : Time) : timerRemaining (some now) now = 1 := by
  simp [timerRemaining, timerDue]

/-- Before the expiry tick of a timer of at most 5,000 ms the time to it remains. -/
theorem timerRemaining_before_expiry {d now : Time} (h1 : 1 ≤ (d - now).toNat) (h2 : (d - now).toNat ≤ 5000) :
    timerRemaining (some d) now = (d - now).toNat := by
  have later : timerDue (some d) now = false := decide_eq_false (by bv_omega)
  rw [timerRemaining, later]
  rfl

/-! ### The three requests -/

theorem exec_getStatus_reads {r : Frame} {rest : List Frame} {s : State} (hs : s.serves 0x02#8 r rest) :
    (r.payload = [] → exec .getStatus s = .next (s.replied r rest (0x00#8 :: s.statusFields))) ∧
      (r.payload ≠ [] → exec .getStatus s = .next (s.replied r rest [0x01#8])) :=
  whenServing_readNone hs

theorem exec_readKeys_reads {r : Frame} {rest : List Frame} {s : State} (hs : s.serves 0x07#8 r rest) :
    (r.payload = [] → exec .readKeys s = .next (s.replied r rest (0x00#8 :: s.keyFields))) ∧
      (r.payload ≠ [] → exec .readKeys s = .next (s.replied r rest [0x01#8])) :=
  whenServing_readNone hs

theorem exec_readDisplay_reads {r : Frame} {rest : List Frame} {s : State} (hs : s.serves 0x12#8 r rest) :
    (r.payload = [] → exec .readDisplay s = .next (s.replied r rest (0x00#8 :: s.displayFields))) ∧
      (r.payload ≠ [] → exec .readDisplay s = .next (s.replied r rest [0x01#8])) :=
  whenServing_readNone hs

/-- Settles O36: each request only reads (`whenServing_readNone`), and its fields are rewritten one by one. -/
theorem readRequestsReportAndChangeNothing : Obligations.ReadRequestsReportAndChangeNothing := by
  unfold Obligations.ReadRequestsReportAndChangeNothing
  intro r rest s blocked byte hi lo bit eligible f pendingSet
  refine ⟨fun hs => ⟨fun hp => ?_, (exec_getStatus_reads hs).2⟩, fun hs => ⟨fun hp => ?_, (exec_readKeys_reads hs).2⟩,
    fun hs => ⟨fun hp => ?_, (exec_readDisplay_reads hs).2⟩⟩
  · have ⟨_, awake, _⟩ := hs
    rw [(exec_getStatus_reads hs).1 hp, State.statusFields, awake, noticeStateByte_eq, pendingClassBits_eq, blockedKeys_eq,
      boolByte_eq]
    rfl
  · rw [(exec_readKeys_reads hs).1 hp, State.keyFields, blockedKeys_eq]
    simp only [reasonByte_eq, List.append_assoc, List.cons_append, List.nil_append]
    rfl
  · refine ⟨BitVec.ofNat 16 (timerRemaining s.display.testTimer s.now), ?_, fun off => ?_, fun d on due => ?_,
      fun d on h1 h2 => ?_⟩
    · rw [(exec_readDisplay_reads hs).1 hp, State.displayFields, boolByte_eq, ← shownPatterns_eq, List.flatMap_map]
      rfl
    · rw [off]; rfl
    · rw [on, due]
      exact congrArg (BitVec.ofNat 16) (timerRemaining_at_expiry s.now)
    · rw [on]
      exact (congrArg (BitVec.ofNat 16) (timerRemaining_before_expiry h1 h2)).trans
        ((BitVec.ofNat_toNat _ _).trans (BitVec.setWidth_eq _))

end Sys2Proof.Machine
end

section
/-!
Obligation O13: what a flush does, as one update of the part (R59, R73, R77).
-/
namespace Sys2Proof.Machine

/-- The newest of the held presses whose key has the repeat flag: the one that becomes repeat owner (R59, R73). -/
def State.newestRepeating (s : State) (held : List HeldPress) : Option HeldPress :=
  (held.filter fun h => (s.mapEntry h.key).repeats).getLast?

theorem State.newestRepeating_concat (s : State) (held : List HeldPress) (h : HeldPress) :
    s.newestRepeating (held ++ [h]) = if (s.mapEntry h.key).repeats = true then some h else s.newestRepeating held := by
  unfold State.newestRepeating
  rw [List.filter_append]
  cases hr : (s.mapEntry h.key).repeats <;> simp [hr]

/-- The hold timers once each held press with hold-report has started its own (R59, R77). -/
def State.timersAfter (s : State) (held : List HeldPress) : Vector Timer 64 :=
  Vector.ofFn fun k : KeyIndex =>
    if k ∈ held.map HeldPress.key ∧ (s.mapEntry k).holdReport = true then startTimer s.now s.repeatHold.holdTime
    else s.repeatHold.holdTimers[k]

theorem State.timersAfter_nil (s : State) : s.timersAfter [] = s.repeatHold.holdTimers := by
  ext i hi : 1
  simp [State.timersAfter]

theorem State.timersAfter_concat (s : State) (held : List HeldPress) (h : HeldPress) :
    s.timersAfter (held ++ [h]) =
      if (s.mapEntry h.key).holdReport = true then
        (s.timersAfter held).set h.key (startTimer s.now s.repeatHold.holdTime)
      else s.timersAfter held := by
  ext i hi : 1
  have named : (⟨i, hi⟩ : KeyIndex) = h.key ↔ h.key.val = i := ⟨fun e => by rw [← e], fun e => Fin.ext e.symm⟩
  by_cases hk : h.key.val = i
  · subst hk
    cases hr : (s.mapEntry h.key).holdReport <;> simp [State.timersAfter, hr]
  · cases hr : (s.mapEntry h.key).holdReport <;> simp [State.timersAfter, named, hk]

/-- A run of presses handed on, as one update: the queue takes a PRESS for each, the newest with the repeat flag is
repeat owner, and each with hold-report has its hold timer started now (R59, R73, R77). -/
theorem handPresses_eq (held : List HeldPress) (s : State) :
    held.foldl (fun s h => handPress h.key h.time s) s = { s with
      queue := held.foldl (fun q h => appendEvent (.press (s.mapEntry h.key).code h.key h.time) q) s.queue
      repeatHold.owner :=
        match s.newestRepeating held with
        | some h => some { key := h.key, phase := .delay }
        | none => s.repeatHold.owner
      repeatHold.timer :=
        match s.newestRepeating held with
        | some _ => startTimer s.now s.repeatHold.repeatDelay
        | none => s.repeatHold.timer
      repeatHold.holdTimers := s.timersAfter held } := by
  induction held using List.reverseRecOn with
  | nil => rw [State.timersAfter_nil]; rfl
  | append_singleton held h ih =>
    rw [List.foldl_concat, ih, handPress_eq, State.newestRepeating_concat, State.timersAfter_concat, List.foldl_concat]
    simp only [State.mapEntry]
    by_cases hr : s.keys.map[h.key].repeats = true <;> simp only [hr] <;> rfl

/-- A flush is a run of presses that leaves the matcher IDLE (R59). -/
theorem flushHeld_eq (s : State) :
    flushHeld s = { s with
      queue := s.chords.held.foldl (fun q h => appendEvent (.press (s.mapEntry h.key).code h.key h.time) q) s.queue
      chords.held := []
      chords.window := none
      repeatHold.owner :=
        match s.newestRepeating s.chords.held with
        | some h => some { key := h.key, phase := .delay }
        | none => s.repeatHold.owner
      repeatHold.timer :=
        match s.newestRepeating s.chords.held with
        | some _ => startTimer s.now s.repeatHold.repeatDelay
        | none => s.repeatHold.timer
      repeatHold.holdTimers := s.timersAfter s.chords.held } := by
  unfold flushHeld
  rw [handPresses_eq]

/-- Settles O13, which is `flushHeld_eq` with its definitions written out. -/
theorem flushHandsOnEveryHeldPress : Obligations.FlushHandsOnEveryHeldPress := flushHeld_eq

end Sys2Proof.Machine
end

section
/-!
Obligations O14 and O15: what the matcher decides, from the chord table and the held list alone (R57, R58, R63).
-/
namespace Sys2Proof.Machine

/-! ### Member sets (R53) -/

theorem keysWithin_iff (h m : List KeyIndex) : keysWithin h m = true ↔ ∀ k ∈ h, k ∈ m := by
  simp [keysWithin]

theorem sameKeys_iff (h m : List KeyIndex) : sameKeys h m = true ↔ (∀ k ∈ h, k ∈ m) ∧ ∀ k ∈ m, k ∈ h := by
  simp [sameKeys, keysWithin_iff]

theorem strictlyWithin_iff (h m : List KeyIndex) :
    strictlyWithin h m = true ↔ (∀ k ∈ h, k ∈ m) ∧ ¬ ∀ k ∈ m, k ∈ h := by
  rw [strictlyWithin, Bool.and_eq_true, Bool.not_eq_true', Bool.eq_false_iff, ne_eq, keysWithin_iff, keysWithin_iff]

/-- The occupied slots are the slots that hold a record, each with its number (R52). -/
theorem mem_occupied {b : ChordBlock} {i : SlotIndex} {c : ChordSlot} : (i, c) ∈ b.occupied ↔ b.slots[i] = some c := by
  simp only [ChordBlock.occupied, List.mem_filterMap, Option.map_eq_some_iff, Prod.mk.injEq]
  constructor
  · rintro ⟨j, -, d, hd, rfl, rfl⟩
    exact hd
  · exact fun hc => ⟨i, List.mem_finRange i, c, hc, rfl, rfl⟩

/-- Some occupied slot's member list has a property (R52). -/
theorem any_members_iff (b : ChordBlock) (p : List KeyIndex → Bool) :
    (b.occupied.map fun r => r.2.members).any p = true ↔
      ∃ (i : SlotIndex) (c : ChordSlot), b.slots[i] = some c ∧ p c.members = true := by
  rw [List.any_map, List.any_eq_true]
  exact ⟨fun ⟨(i, c), hc, hp⟩ => ⟨i, c, mem_occupied.1 hc, hp⟩, fun ⟨i, c, hc, hp⟩ => ⟨(i, c), mem_occupied.2 hc, hp⟩⟩

/-- The held keys all are members of the chord (R57). -/
def State.Fits (s : State) (c : ChordSlot) : Prop := ∀ k ∈ s.heldKeys, k ∈ c.members

/-- The held keys are the chord's member set (R57). -/
def State.Equals (s : State) (c : ChordSlot) : Prop := s.Fits c ∧ ∀ k ∈ c.members, k ∈ s.heldKeys

theorem equalSlot_some {s : State} {i : SlotIndex} {c : ChordSlot} (h : s.equalSlot = some (i, c)) :
    s.chords.slots[i] = some c ∧ s.Equals c :=
  ⟨mem_occupied.1 (List.mem_of_find?_eq_some h),
    (sameKeys_iff _ _).1 (List.find?_some (p := fun r : SlotIndex × ChordSlot => sameKeys s.heldKeys r.2.members) h)⟩

theorem equalSlot_none {s : State} (h : s.equalSlot = none) {i : SlotIndex} {c : ChordSlot}
    (hc : s.chords.slots[i] = some c) : ¬ s.Equals c := fun e =>
  List.find?_eq_none.1 h (i, c) (mem_occupied.2 hc) ((sameKeys_iff _ _).2 e)

/-! ### The chord table (R52) -/

/-- The chord table alone: every member list has 2 to 4 distinct keys, and no two slots have one member set (R52). -/
structure ChordTableSound (slots : Vector (Option ChordSlot) 8) : Prop where
  members  : ∀ i : SlotIndex, ∀ c, slots[i] = some c → 2 ≤ c.members.length ∧ c.members.length ≤ 4 ∧ c.members.Nodup
  distinct : ∀ i j : SlotIndex, i ≠ j → ∀ c d, slots[i] = some c → slots[j] = some d →
    ¬ (∀ k, k ∈ c.members ↔ k ∈ d.members)

theorem ChordsSound.table {s : State} (h : ChordsSound s) : ChordTableSound s.chords.slots := ⟨h.members, h.distinct⟩

/-- At most one slot's member set equals the held keys (R57). -/
theorem ChordTableSound.unique {s : State} (h : ChordTableSound s.chords.slots) {i j : SlotIndex} {c d : ChordSlot}
    (hc : s.chords.slots[i] = some c) (hd : s.chords.slots[j] = some d) (ec : s.Equals c) (ed : s.Equals d) :
    i = j ∧ c = d := by
  by_cases hij : i = j
  · subst hij
    rw [hc] at hd
    injection hd with hd
    exact ⟨rfl, hd⟩
  · exact absurd (fun k => ⟨fun hk => ed.1 k (ec.2 k hk), fun hk => ec.1 k (ed.2 k hk)⟩) (h.distinct i j hij c d hc hd)

/-! ### Chord completion (R58) -/

/-- Marking keys as chorded rewrites the key state table alone (R58). -/
theorem markChorded_eq (keys : List KeyIndex) (s : State) :
    keys.foldl markChorded s = { s with
      keys.table := Vector.ofFn fun k : KeyIndex =>
        if k ∈ keys then { s.record k with chorded := true } else s.record k } := by
  have table : ∀ (l : List KeyIndex) (u : State), ∃ t, l.foldl markChorded u = { u with keys.table := t } := by
    intro l
    induction l with
    | nil => exact fun u => ⟨u.keys.table, rfl⟩
    | cons k rest ih =>
      intro u
      obtain ⟨t, e⟩ := ih (markChorded u k)
      exact ⟨t, e⟩
  obtain ⟨t, e⟩ := table keys s
  have records : (keys.foldl markChorded s).record = fun k =>
      if k ∈ keys then { s.record k with chorded := true } else s.record k :=
    funext (markChorded_record keys s)
  rw [← records, ← table_eq_ofFn, e]

/-- A chord's completion as one update (R58). -/
theorem completeChord_eq (i : SlotIndex) (c : ChordSlot) (s : State) :
    completeChord i c s = { s with
      queue := appendEvent (.chord c.code i s.newestHeld) s.queue
      keys.table := Vector.ofFn fun k : KeyIndex =>
        if k ∈ s.heldKeys then { s.record k with chorded := true } else s.record k
      chords.held := []
      chords.window := none } := by
  unfold completeChord
  rw [markChorded_eq]
  rfl

/-- The newest held press is the last one to have joined (R58). -/
theorem newestHeld_concat {s : State} {older : List HeldPress} {newest : HeldPress}
    (h : s.chords.held = older ++ [newest]) : s.newestHeld = newest.time := by
  simp [State.newestHeld, h]

/-! ### CHORD_WINDOW_EXPIRY (R63) -/

/-- What the window's expiry comes to: the chord equal to the held keys completes, or there is none and the held list is
flushed (R63). -/
theorem expireWindow_outcome (s : State) :
    (∃ (i : SlotIndex) (c : ChordSlot), s.chords.slots[i] = some c ∧ s.Equals c ∧
        expireWindow s = completeChord i c s) ∨
      ((∀ (i : SlotIndex) (c : ChordSlot), s.chords.slots[i] = some c → ¬ s.Equals c) ∧
        expireWindow s = flushHeld s) := by
  unfold expireWindow
  split
  next i c h => exact .inl ⟨i, c, (equalSlot_some h).1, (equalSlot_some h).2, rfl⟩
  next h => exact .inr ⟨fun _ _ => equalSlot_none h, rfl⟩

theorem exec_chordWindowExpiry {s : State} (hl : s.live) :
    exec .chordWindowExpiry s =
      .next (if timerDue s.chords.window s.scan.panelTime = true then expireWindow s else s) :=
  whenLive_of_live (f := fun s => if timerDue s.chords.window s.now then expireWindow s else s) hl

/-- Settles O14: the two outcomes of the expiry (`expireWindow_outcome`), the slot of the first being the only one that
equals the held keys. -/
theorem chordWindowExpirySettlesTheHeldList : Obligations.ChordWindowExpirySettlesTheHeldList := by
  unfold Obligations.ChordWindowExpirySettlesTheHeldList
  refine ⟨fun s hl sound due => ⟨fun i c older newest hc same held => ?_, fun other => ?_⟩, fun s hl early => ?_⟩
  · have equals : s.Equals c := ⟨fun k hk => (same k).2 hk, fun k hk => (same k).1 hk⟩
    rw [exec_chordWindowExpiry hl, if_pos due]
    rcases expireWindow_outcome s with ⟨j, d, hd, ed, e⟩ | ⟨none, -⟩
    · obtain ⟨rfl, rfl⟩ := sound.table.unique hd hc ed equals
      rw [e, completeChord_eq, newestHeld_concat held]
    · exact absurd equals (none i c hc)
  · rw [exec_chordWindowExpiry hl, if_pos due]
    rcases expireWindow_outcome s with ⟨j, d, hd, ed, -⟩ | ⟨-, e⟩
    · exact absurd (fun k => ⟨ed.2 k, ed.1 k⟩) (other j d hd)
    · rw [e]
  · rw [exec_chordWindowExpiry hl, early]
    rfl

/-! ### Admission of a member key (R55 to R58) -/

/-- The state in which a member key has joined the held list, and the window timer has been started if the matcher was
IDLE (R55, R56). -/
def joinHeld (k : KeyIndex) (s : State) : State :=
  { s with
    chords.held := s.chords.held ++ [{ key := k, time := s.now }]
    chords.window := if s.chords.held = [] then startTimer s.now s.repeatHold.chordWindow else s.chords.window }

theorem admitMember_eq (k : KeyIndex) (s : State) : admitMember k s = decideChord (joinHeld k s) := by
  simp only [admitMember, joinHeld, List.isEmpty_iff]

theorem joinHeld_heldKeys (k : KeyIndex) (s : State) : (joinHeld k s).heldKeys = s.heldKeys ++ [k] := by
  simp [joinHeld, State.heldKeys]

/-- What the matcher decides, by the first case that applies: a chord equal to the held keys completes where no slot
strictly contains them; they fit into a slot otherwise; or they fit into none (R57). -/
theorem decideChord_outcome (s : State) :
    (∃ (i : SlotIndex) (c : ChordSlot), s.chords.slots[i] = some c ∧ s.Equals c ∧
        (∀ (j : SlotIndex) (d : ChordSlot), s.chords.slots[j] = some d → s.Fits d → s.Equals d) ∧
        decideChord s = completeChord i c s) ∨
      (∃ (i : SlotIndex) (c : ChordSlot), s.chords.slots[i] = some c ∧ s.Fits c ∧ ¬ s.Equals c ∧ decideChord s = s) ∨
      ((∀ (i : SlotIndex) (c : ChordSlot), s.chords.slots[i] = some c → ¬ s.Fits c) ∧ decideChord s = flushHeld s) := by
  unfold decideChord
  split
  next i c h =>
    obtain ⟨hc, ec⟩ := equalSlot_some h
    simp only
    split
    next larger =>
      obtain ⟨j, d, hd, strict⟩ := (any_members_iff ..).1 larger
      obtain ⟨fits, more⟩ := (strictlyWithin_iff ..).1 strict
      exact .inr (.inl ⟨j, d, hd, fits, fun e => more e.2, rfl⟩)
    next largest =>
      refine .inl ⟨i, c, hc, ec, fun j d hd fits => ⟨fits, ?_⟩, rfl⟩
      by_contra more
      exact largest ((any_members_iff ..).2 ⟨j, d, hd, (strictlyWithin_iff ..).2 ⟨fits, more⟩⟩)
  next h =>
    simp only
    split
    next within =>
      obtain ⟨i, c, hc, fits⟩ := (any_members_iff ..).1 within
      exact .inr (.inl ⟨i, c, hc, (keysWithin_iff ..).1 fits, equalSlot_none h hc, rfl⟩)
    next outside =>
      refine .inr (.inr ⟨fun i c hc fits => outside ?_, rfl⟩)
      exact (any_members_iff ..).2 ⟨i, c, hc, (keysWithin_iff ..).2 fits⟩

/-- Settles O15: the three outcomes exclude each other (`decideChord_outcome`), and the slot of the first is the only
one that equals the held keys. -/
theorem memberAdmissionIsDecidedByTheTable : Obligations.MemberAdmissionIsDecidedByTheTable := by
  unfold Obligations.MemberAdmissionIsDecidedByTheTable
  intro k s sound h fits equals joined
  have table : ChordTableSound (joinHeld k s).chords.slots := sound.table
  have fits_iff : ∀ c, (joinHeld k s).Fits c ↔ fits c := fun c => by simp only [State.Fits, joinHeld_heldKeys, fits, h]
  have equals_iff : ∀ c, (joinHeld k s).Equals c ↔ equals c := fun c => by
    simp only [State.Equals, fits_iff, joinHeld_heldKeys, equals, h]
  simp only [← fits_iff, ← equals_iff]
  rw [admitMember_eq]
  rcases decideChord_outcome (joinHeld k s) with
    ⟨i, c, hc, ec, largest, e⟩ | ⟨i, c, hc, fc, ne, e⟩ | ⟨none, e⟩ <;> rw [e]
  · refine ⟨fun j d hd ed _ => ?_, fun ⟨j, d, hd, fd, ne⟩ => absurd (largest j d hd fd) ne,
      fun none => absurd ec.1 (none i c hc)⟩
    obtain ⟨rfl, rfl⟩ := table.unique hc hd ec ed
    rw [completeChord_eq, newestHeld_concat (s := joinHeld k s) rfl, joinHeld_heldKeys]
    rfl
  · exact ⟨fun _ _ _ _ largest => absurd (largest i c hc fc) ne, fun _ => rfl, fun none => absurd fc (none i c hc)⟩
  · exact ⟨fun j d hd ed _ => absurd ed.1 (none j d hd), fun ⟨j, d, hd, fd, _⟩ => absurd fd (none j d hd), fun _ => rfl⟩

end Sys2Proof.Machine
end

section
/-!
Obligation O42: SET_CHORD reads its payload, flushes a held list and writes its slot.
-/
namespace Sys2Proof.Machine

/-! ### The payload of SET_CHORD (R67, checks 1 and 2) -/

/-- The fields of a SET_CHORD whose length is right are in range: the slot, the member count, the key indices, and no
index repeated (R67, check 2). -/
def ChordInRange (slot count : Byte) (members : List Byte) : Prop :=
  slot.toNat ≤ 7 ∧ count.toNat ≠ 1 ∧ count.toNat ≤ 4 ∧ (∀ b ∈ members, b.toNat ≤ 63) ∧ members.Nodup

/-- The keys that the member bytes name (R67). -/
def namedKeys (members : List Byte) : List KeyIndex := members.map fun b => Fin.ofNat 64 b.toNat

/-- The request that a payload in range makes: an empty record for a count of 0 (R68). -/
def namedChord (slot code : Byte) (members : List Byte) : ChordRequest :=
  { slot := Fin.ofNat 8 slot.toNat
    record := if members = [] then none else some { code := code, members := namedKeys members } }

theorem readSlot_of_le {b : Byte} (h : b.toNat ≤ 7) : readSlot b = some (Fin.ofNat 8 b.toNat) := by
  have lt : b.toNat < 8 := by omega
  rw [readSlot, dif_pos lt]
  exact congrArg some (Fin.ext (Nat.mod_eq_of_lt lt).symm)

/-- Members in range name distinct keys exactly where no byte is repeated. -/
theorem namedKeys_nodup {members : List Byte} (h : ∀ b ∈ members, b.toNat ≤ 63) :
    (namedKeys members).Nodup ↔ members.Nodup := by
  refine ⟨List.Nodup.of_map _, fun distinct => distinct.map_on fun a ha b hb e => ?_⟩
  have ha := h a ha
  have hb := h b hb
  have values : a.toNat % 64 = b.toNat % 64 := congrArg Fin.val e
  exact BitVec.eq_of_toNat_eq (by omega)

theorem readChord_of_length_ne {slot code count : Byte} {members : List Byte} (h : members.length ≠ count.toNat) :
    readChord (slot :: code :: count :: members) = .error .badLength :=
  if_pos h

theorem readChord_of_short {p : List Byte} (h : p.length < 3) : readChord p = .error .badLength := by
  unfold readChord
  split
  · simp only [List.length_cons] at h
    omega
  · rfl

theorem readChord_of_inRange {slot code count : Byte} {members : List Byte} (length : members.length = count.toNat)
    (h : ChordInRange slot count members) :
    readChord (slot :: code :: count :: members) = .ok (namedChord slot code members) := by
  obtain ⟨hs, h1, h4, hk, distinct⟩ := h
  have keys : members.mapM readKey = some (namedKeys members) := mapM_eq_some_map fun b hb => readKey_of_le (hk b hb)
  have fine : ¬ (count.toNat = 1 ∨ 4 < count.toNat ∨ ¬ (namedKeys members).Nodup) := by
    rw [namedKeys_nodup hk]
    simp only [distinct, not_true, or_false]
    omega
  have empty : namedKeys members = [] ↔ members = [] := List.map_eq_nil_iff
  simp [readChord, length, readSlot_of_le hs, keys, fine, empty, namedChord, orRange]

theorem readChord_of_not_inRange {slot code count : Byte} {members : List Byte}
    (length : members.length = count.toNat) (h : ¬ ChordInRange slot count members) :
    readChord (slot :: code :: count :: members) = .error .range := by
  refine (if_neg (not_not.2 length)).trans ?_
  cases hs : readSlot slot with
  | none => rfl
  | some i =>
    cases hk : members.mapM readKey with
    | none => rfl
    | some keys =>
      have slotInRange : slot.toNat ≤ 7 := by
        by_contra above
        rw [readSlot_of_lt (by omega)] at hs
        cases hs
      have keysInRange : ∀ b ∈ members, b.toNat ≤ 63 := fun b hb => by
        obtain ⟨k, hb⟩ := of_mapM_eq_some hk hb
        exact readKey_some hb
      have named : keys = namedKeys members := by
        rw [mapM_eq_some_map fun b hb => readKey_of_le (keysInRange b hb)] at hk
        exact (Option.some.inj hk).symm
      have wrong : count.toNat = 1 ∨ 4 < count.toNat ∨ ¬ keys.Nodup := by
        by_contra fine
        rw [named, namedKeys_nodup keysInRange] at fine
        push Not at fine
        exact h ⟨slotInRange, fine.1, fine.2.1, keysInRange, fine.2.2⟩
      simp [wrong, orRange]

/-- A SET_CHORD that passes checks 1 and 2 is one whose payload is in range (R67). -/
theorem readChord_ok {p : List Byte} {q : ChordRequest} (h : readChord p = .ok q) :
    ∃ slot code count members, members.length = count.toNat ∧ ChordInRange slot count members ∧
      q = namedChord slot code members := by
  match p with
  | slot :: code :: count :: members =>
    by_cases length : members.length = count.toNat
    · by_cases ranged : ChordInRange slot count members
      · rw [readChord_of_inRange length ranged] at h
        injection h with h
        exact ⟨slot, code, count, members, length, ranged, h.symm⟩
      · rw [readChord_of_not_inRange length ranged] at h
        cases h
    · rw [readChord_of_length_ne length] at h
      cases h
  | [] | [_] | [_, _] => cases h

/-! ### The conflict check (R67, check 3) -/

/-- A record conflicts with an occupied slot other than its own that has its member set (R67). -/
theorem chordConflicts_iff {s : State} {q : ChordRequest} {c : ChordSlot} (h : q.record = some c) :
    s.chordConflicts q = true ↔ ∃ (i : SlotIndex) (d : ChordSlot), i ≠ q.slot ∧ s.chords.slots[i] = some d ∧
      ∀ k, k ∈ c.members ↔ k ∈ d.members := by
  unfold State.chordConflicts
  rw [h, List.any_eq_true]
  simp only [Bool.and_eq_true, bne_iff_ne, sameKeys_iff]
  constructor
  · rintro ⟨⟨i, d⟩, hd, other, within, back⟩
    exact ⟨i, d, other, mem_occupied.1 hd, fun k => ⟨within k, back k⟩⟩
  · rintro ⟨i, d, other, hd, same⟩
    exact ⟨(i, d), mem_occupied.2 hd, other, fun k => (same k).1, fun k => (same k).2⟩

/-- The same for the request of a payload in range, as the rule states it; emptying a slot conflicts with none (R67). -/
theorem namedChord_conflicts_iff {slot code : Byte} {members : List Byte} (hs : slot.toNat ≤ 7) (s : State) :
    s.chordConflicts (namedChord slot code members) = true ↔
      members ≠ [] ∧ ∃ (i : SlotIndex) (c : ChordSlot), i.val ≠ slot.toNat ∧ s.chords.slots[i] = some c ∧
        ∀ k, k ∈ namedKeys members ↔ k ∈ c.members := by
  by_cases empty : members = []
  · simp [State.chordConflicts, namedChord, empty]
  · have other : ∀ i : SlotIndex, i ≠ Fin.ofNat 8 slot.toNat ↔ i.val ≠ slot.toNat := fun i => by
      rw [ne_eq, Fin.ext_iff, Fin.val_ofNat, Nat.mod_eq_of_lt (by omega)]
    rw [chordConflicts_iff (c := { code := code, members := namedKeys members }) (if_neg empty)]
    simp only [namedChord, other, ne_eq, empty, not_false_eq_true, true_and]

theorem checkChord_of_error {p : List Byte} {s : State} {code : ResultCode} (h : readChord p = .error code) :
    checkChord p s = .error code := by
  simp only [checkChord, h]

theorem checkChord_of_ok {p : List Byte} {s : State} {q : ChordRequest} (h : readChord p = .ok q) :
    checkChord p s = if s.chordConflicts q = true then .error .conflict else .ok q := by
  simp only [checkChord, h]

/-! ### The write (R68) -/

/-- A held list is flushed, then the slot is written; the request has no other effect (R68). -/
theorem writeChord_eq (q : ChordRequest) (s : State) :
    writeChord q s = { if s.chords.held = [] then s else flushHeld s with
      chords.slots := s.chords.slots.set q.slot q.record } := by
  unfold writeChord
  simp only [List.isEmpty_iff]
  split
  · rfl
  · simp only [(flushHeld_frame s).1.slots]

/-- A flush does not look at the request queue (R59). -/
theorem flushHeld_taken (s : State) (rest : List Frame) :
    flushHeld { s with dispatch.requests := rest } = { flushHeld s with dispatch.requests := rest } := by
  rw [flushHeld_eq, flushHeld_eq]
  rfl

theorem exec_setChord_refused {r : Frame} {rest : List Frame} {s : State} (hs : s.serves 0x08#8 r rest)
    {code : ResultCode} (h : checkChord r.payload { s with dispatch.requests := rest } = .error code) :
    exec .setChord s = .next (s.replied r rest [code.byte]) :=
  whenServing_answer_refused (fields := fun r u => checkChord r.payload u) hs h

theorem exec_setChord_accepted {r : Frame} {rest : List Frame} {s : State} (hs : s.serves 0x08#8 r rest)
    {q : ChordRequest} (h : checkChord r.payload { s with dispatch.requests := rest } = .ok q) :
    exec .setChord s = .next { (if s.chords.held = [] then s else flushHeld s).replied r rest [0x00#8] with
      chords.slots := s.chords.slots.set q.slot q.record } := by
  have effect := writeChord_effect q { s with dispatch.requests := rest }
  have link : (writeChord q { s with dispatch.requests := rest }).link = s.link := by
    rw [writeChord_eq]
    split
    · rfl
    · exact (flushHeld_frame { s with dispatch.requests := rest }).1.link
  refine (whenServing_answer_accepted (fields := fun r u => checkChord r.payload u) hs h effect.dispatch link).trans ?_
  rw [writeChord_eq, flushHeld_taken]
  have dispatch := (flushHeld_frame s).1.dispatch
  by_cases idle : s.chords.held = []
  · rw [if_pos idle, if_pos idle]
    rfl
  · rw [if_neg idle, if_neg idle]
    simp only [State.replied, dispatch]
    rfl

/-- Settles O42: the checks in their order (`readChord_of_length_ne`, `readChord_of_not_inRange`, `checkChord_of_ok`),
and the write of an accepted request (`exec_setChord_accepted`). -/
theorem setChordFlushesThenWritesItsSlot : Obligations.SetChordFlushesThenWritesItsSlot := by
  unfold Obligations.SetChordFlushesThenWritesItsSlot
  intro r rest s hs
  refine ⟨fun slot code count members hp => ?_, fun short => ?_⟩
  · intro keys inRange conflict flushed
    have checked (length : members.length = count.toNat) (ranged : inRange) :
        checkChord r.payload { s with dispatch.requests := rest } = _ :=
      checkChord_of_ok (hp ▸ readChord_of_inRange length ranged)
    refine ⟨fun length => ?_, fun length wrong => ?_, fun length ranged clash => ?_, fun length ranged free => ?_⟩
    · exact exec_setChord_refused hs (checkChord_of_error (hp ▸ readChord_of_length_ne length))
    · exact exec_setChord_refused hs (checkChord_of_error (hp ▸ readChord_of_not_inRange length wrong))
    · exact exec_setChord_refused hs
        ((checked length ranged).trans (if_pos ((namedChord_conflicts_iff ranged.1 _).2 clash)))
    · exact exec_setChord_accepted hs
        ((checked length ranged).trans (if_neg (mt (namedChord_conflicts_iff ranged.1 _).1 free)))
  · exact exec_setChord_refused hs (checkChord_of_error (readChord_of_short short))

end Sys2Proof.Machine
end

section
/-!
Obligations O55 and O56, the key path. The matcher and the repeat and hold unit lean on each other: repeat and hold are
at work for keys that are down, unchorded and not held back, and the matcher marks or hands on the keys it holds back.
-/
namespace Sys2Proof.Machine

/-- The chord matcher and the repeat and hold unit are both sound. -/
structure MatcherSound (s : State) : Prop where
  chords     : ChordsSound s
  repeatHold : RepeatHoldSound s

theorem KeysSound.matcher {s : State} (h : KeysSound s) : MatcherSound s := ⟨h.chords, h.repeatHold⟩

/-! ### Keys whose press has been handed on directly (R72, R77) -/

/-- The key is in the down-set, part of no reported chord, and not held back (R66, R72, R77). -/
def State.DirectPress (s : State) (k : KeyIndex) : Prop :=
  k ∈ s.keys.downSet ∧ (s.record k).chorded = false ∧ k ∉ s.heldKeys

/-- The repeat and hold unit is at work for the key: it is repeat owner, or its hold timer runs (R72, R77). -/
def State.Engaged (s : State) (k : KeyIndex) : Prop :=
  s.repeatHold.owner.map RepeatOwner.key = some k ∨ s.repeatHold.holdTimers[k].isSome = true

/-- The repeat timer runs exactly while there is an owner (R72). -/
def State.TimerWithOwner (s : State) : Prop :=
  s.repeatHold.timer.isSome = true ↔ s.repeatHold.owner.isSome = true

theorem RepeatHoldSound.direct {s : State} (h : RepeatHoldSound s) {k : KeyIndex} (e : s.Engaged k) :
    s.DirectPress k := by
  rcases e with owner | hold
  · obtain ⟨o, ho, rfl⟩ := Option.map_eq_some_iff.1 owner
    exact h.owner o ho
  · exact h.hold k hold

theorem State.Engaged.congr {s t : State} {k : KeyIndex} (h : t.Engaged k) (repeatHold : t.repeatHold = s.repeatHold) :
    s.Engaged k := by
  unfold State.Engaged at h ⊢
  rwa [repeatHold] at h

/-- An operation of the key path of a waking part: its settings are kept (`KeyPathFrame`), so the unit stays sound if it
is at work for direct presses alone. -/
theorem RepeatHoldSound.keyPath {s t : State} (h : RepeatHoldSound s) (f : KeyPathFrame s t)
    (awake : s.power.state ≠ .asleep) (timer : t.TimerWithOwner) (direct : ∀ k, t.Engaged k → t.DirectPress k) :
    RepeatHoldSound t where
  owner o ho := direct o.key (.inl (congrArg (Option.map RepeatOwner.key) ho))
  timer := timer
  hold k hk := direct k (.inr hk)
  delay := by rw [f.repeatDelay]; exact h.delay
  period := by rw [f.repeatPeriod]; exact h.period
  time := by rw [f.holdTime]; exact h.time
  window := by rw [f.chordWindow]; exact h.window
  quiet ha := absurd ha (by rwa [f.power])

/-! ### The chord matcher from its parts -/

/-- An IDLE matcher is sound with a sound table (R52, R55). -/
theorem chordsSound_of_idle {s : State} (table : ChordTableSound s.chords.slots) (held : s.chords.held = [])
    (window : s.chords.window = none) : ChordsSound s where
  members := table.members
  distinct := table.distinct
  order := by simp [State.heldKeys, held]
  atMost := by simp [held]
  window := by simp [held, window]
  press := by simp [held]
  within hne := absurd held hne

/-- A held list that is kept stays sound if its keys keep their chorded flag, admission time and order (R54). -/
theorem ChordsSound.kept {s t : State} (h : ChordsSound s) (chords : t.chords = s.chords)
    (order : s.heldKeys.Sublist t.keys.downSet)
    (record : ∀ k ∈ s.heldKeys, (t.record k).chorded = (s.record k).chorded ∧
      (t.record k).admission = (s.record k).admission) : ChordsSound t where
  members := by rw [chords]; exact h.members
  distinct := by rw [chords]; exact h.distinct
  order := by unfold State.heldKeys; rw [chords]; exact order
  atMost := by rw [chords]; exact h.atMost
  window := by rw [chords]; exact h.window
  press p hp := by
    rw [chords] at hp
    obtain ⟨chorded, admission⟩ := record p.key (List.mem_map_of_mem hp)
    rw [chorded, admission]
    exact h.press p hp
  within := by rw [chords]; exact h.within

/-- Held keys are down and unchorded (R54). -/
theorem ChordsSound.held_down {s : State} (h : ChordsSound s) {k : KeyIndex} (hk : k ∈ s.heldKeys) :
    k ∈ s.keys.downSet ∧ (s.record k).chorded = false := by
  obtain ⟨p, hp, rfl⟩ := List.mem_map.1 hk
  exact ⟨h.order.subset hk, (h.press p hp).1⟩

/-! ### What leaves the matcher and the unit alone -/

/-- What leaves the down-set, the matcher, the repeat and hold unit, and the chorded flag and admission time of every
key of the down-set as they are, and no key event with a sleeping part. -/
structure MatcherFrame (s t : State) : Prop where
  downSet    : t.keys.downSet = s.keys.downSet
  record     : ∀ k ∈ s.keys.downSet, (t.record k).chorded = (s.record k).chorded ∧
    (t.record k).admission = (s.record k).admission
  chords     : t.chords = s.chords
  repeatHold : t.repeatHold = s.repeatHold
  quiet      : (s.power.state = .asleep → s.queue = []) → t.power.state = .asleep → t.queue = []

/-- The frame of an operation that touches neither the key state table, nor the queue, nor the power state. -/
theorem MatcherFrame.same {s t : State} (downSet : t.keys.downSet = s.keys.downSet)
    (table : t.keys.table = s.keys.table) (chords : t.chords = s.chords) (repeatHold : t.repeatHold = s.repeatHold)
    (queue : t.queue = s.queue) (power : t.power.state = s.power.state) : MatcherFrame s t where
  downSet := downSet
  record k _ := by unfold State.record; rw [table]; exact ⟨rfl, rfl⟩
  chords := chords
  repeatHold := repeatHold
  quiet h ha := by rw [queue]; exact h (power ▸ ha)

theorem MatcherFrame.refl (s : State) : MatcherFrame s s := .same rfl rfl rfl rfl rfl rfl

theorem MatcherFrame.trans {s t u : State} (h : MatcherFrame s t) (g : MatcherFrame t u) : MatcherFrame s u where
  downSet := g.downSet.trans h.downSet
  record k hk := by
    obtain ⟨h1, h2⟩ := h.record k hk
    obtain ⟨g1, g2⟩ := g.record k (by rwa [h.downSet])
    exact ⟨g1.trans h1, g2.trans h2⟩
  chords := g.chords.trans h.chords
  repeatHold := g.repeatHold.trans h.repeatHold
  quiet hs := g.quiet (h.quiet hs)

theorem MatcherSound.frame {s t : State} (h : MatcherSound s) (f : MatcherFrame s t) : MatcherSound t where
  chords := h.chords.kept f.chords (f.downSet ▸ h.chords.order) fun k hk => f.record k (h.chords.order.subset hk)
  repeatHold := by
    have held : t.heldKeys = s.heldKeys := by unfold State.heldKeys; rw [f.chords]
    have direct : ∀ k, s.DirectPress k → t.DirectPress k := fun k ⟨down, unchorded, free⟩ =>
      ⟨f.downSet ▸ down, (f.record k down).1.trans unchorded, held ▸ free⟩
    have r := h.repeatHold
    exact
      { owner := fun o ho => direct o.key (r.owner o (f.repeatHold ▸ ho))
        timer := by rw [f.repeatHold]; exact r.timer
        hold := fun k hk => direct k (r.hold k (by rwa [f.repeatHold] at hk))
        delay := by rw [f.repeatHold]; exact r.delay
        period := by rw [f.repeatHold]; exact r.period
        time := by rw [f.repeatHold]; exact r.time
        window := by rw [f.repeatHold]; exact r.window
        quiet := f.quiet r.quiet }

/-- A record rewritten with its chorded flag and admission time kept. -/
theorem setRecord_matcher {k : KeyIndex} {r : KeyRecord} {s : State} (chorded : r.chorded = (s.record k).chorded)
    (admission : r.admission = (s.record k).admission) : MatcherFrame s (s.setRecord k r) where
  downSet := rfl
  record l _ := by
    rw [State.setRecord_record_eq]
    split
    next h => subst h; exact ⟨chorded, admission⟩
    next => exact ⟨rfl, rfl⟩
  chords := rfl
  repeatHold := rfl
  quiet h := h

/-! ### Presses handed on, flush and completion (R58, R59, R73, R77) -/

theorem handPress_engaged {k l : KeyIndex} {time : Time} {s : State} (h : (handPress k time s).Engaged l) :
    s.Engaged l ∨ l = k := by
  rw [handPress_eq] at h
  by_cases hl : k = l
  · exact .inr hl.symm
  · have hv : k.val ≠ l.val := fun e => hl (Fin.ext e)
    left
    rcases h with owner | hold
    · left
      dsimp only at owner
      split at owner
      · exact absurd (Option.some.inj owner) hl
      · exact owner
    · right
      dsimp only at hold
      split at hold
      · simpa [hv] using hold
      · exact hold

theorem handPress_timer {k : KeyIndex} {time : Time} {s : State} (h : s.TimerWithOwner) :
    (handPress k time s).TimerWithOwner := by
  unfold State.TimerWithOwner
  rw [handPress_eq]
  dsimp only
  split
  · exact iff_of_true rfl rfl
  · exact h

/-- A press handed on for a direct press (R43, R59). -/
theorem handPress_matcherSound {k : KeyIndex} {time : Time} {s : State} (h : MatcherSound s)
    (awake : s.power.state ≠ .asleep) (direct : s.DirectPress k) : MatcherSound (handPress k time s) := by
  obtain ⟨keys, chords⟩ := handPress_keys k time s
  have still : ∀ l, s.DirectPress l → (handPress k time s).DirectPress l := fun l hl => by
    unfold State.DirectPress State.heldKeys
    rw [State.record_congr keys, keys, chords]
    exact hl
  refine ⟨h.chords.kept chords (keys ▸ h.chords.order) fun l _ => by rw [State.record_congr keys]; exact ⟨rfl, rfl⟩, ?_⟩
  refine h.repeatHold.keyPath (handPress_frame k time s) awake (handPress_timer h.repeatHold.timer) fun l hl =>
    still l ?_
  rcases handPress_engaged hl with before | rfl
  · exact h.repeatHold.direct before
  · exact direct

theorem newestRepeating_mem {s : State} {held : List HeldPress} {h : HeldPress}
    (e : s.newestRepeating held = some h) : h ∈ held :=
  List.mem_of_mem_filter (List.mem_of_getLast? e)

/-- After a flush the unit is at work for no key but those of before and the held ones (R59). -/
theorem flushHeld_engaged {s : State} {k : KeyIndex} (h : (flushHeld s).Engaged k) : s.Engaged k ∨ k ∈ s.heldKeys := by
  rw [flushHeld_eq] at h
  rcases h with owner | hold
  · dsimp only at owner
    split at owner
    next p hp =>
      right
      rw [← Option.some.inj owner]
      exact List.mem_map_of_mem (newestRepeating_mem hp)
    next => exact .inl (.inl owner)
  · by_cases hk : k ∈ s.heldKeys
    · exact .inr hk
    · have hn : ¬ (k ∈ s.chords.held.map HeldPress.key ∧ (s.mapEntry k).holdReport = true) := fun e => hk e.1
      left; right
      simpa only [State.timersAfter, Fin.getElem_fin, Vector.getElem_ofFn, Fin.eta, if_neg hn] using hold

theorem flushHeld_timer {s : State} (h : s.TimerWithOwner) : (flushHeld s).TimerWithOwner := by
  unfold State.TimerWithOwner
  rw [flushHeld_eq]
  dsimp only
  split
  · exact iff_of_true rfl rfl
  · exact h

/-- A flush of held keys that are down and unchorded makes direct presses of them (R59). -/
theorem flushHeld_matcherSound {s : State} (table : ChordTableSound s.chords.slots) (h : RepeatHoldSound s)
    (awake : s.power.state ≠ .asleep) (down : ∀ k ∈ s.heldKeys, k ∈ s.keys.downSet ∧ (s.record k).chorded = false) :
    MatcherSound (flushHeld s) := by
  obtain ⟨f, keys, held, window⟩ := flushHeld_frame s
  refine ⟨chordsSound_of_idle (f.slots ▸ table) held window, h.keyPath f awake (flushHeld_timer h.timer) fun k hk => ?_⟩
  have ⟨inDownSet, unchorded⟩ : k ∈ s.keys.downSet ∧ (s.record k).chorded = false := by
    rcases flushHeld_engaged hk with before | held
    · exact ⟨(h.direct before).1, (h.direct before).2.1⟩
    · exact down k held
  exact ⟨keys ▸ inDownSet, by rwa [State.record_congr keys], by simp [State.heldKeys, held]⟩

/-- A completed chord marks held keys, for none of which the unit is at work (R58, R66). -/
theorem completeChord_matcherSound {i : SlotIndex} {c : ChordSlot} {s : State} (table : ChordTableSound s.chords.slots)
    (h : RepeatHoldSound s) (awake : s.power.state ≠ .asleep) : MatcherSound (completeChord i c s) := by
  obtain ⟨f, held, window⟩ := completeChord_frame i c s
  have repeatHold : (completeChord i c s).repeatHold = s.repeatHold := by rw [completeChord_eq]
  refine ⟨chordsSound_of_idle (f.slots ▸ table) held window, h.keyPath f awake ?_ fun k hk => ?_⟩
  · unfold State.TimerWithOwner; rw [repeatHold]; exact h.timer
  · obtain ⟨down, unchorded, free⟩ := h.direct (hk.congr repeatHold)
    refine ⟨by rwa [completeChord_downSet], ?_, by simp [State.heldKeys, held]⟩
    have record : (completeChord i c s).record k = s.record k := by
      rw [completeChord_eq]
      simp [State.record, free]
    rwa [record]

theorem expireWindow_matcherSound {s : State} (h : MatcherSound s) (awake : s.power.state ≠ .asleep) :
    MatcherSound (expireWindow s) := by
  rcases expireWindow_outcome s with ⟨i, c, -, -, e⟩ | ⟨-, e⟩ <;> rw [e]
  · exact completeChord_matcherSound h.chords.table h.repeatHold awake
  · exact flushHeld_matcherSound h.chords.table h.repeatHold awake fun k => h.chords.held_down

/-! ### Admission (R43, R56 to R60) -/

/-- A key that was not down joins the down-set (R43). -/
theorem takeIntoDownSet_matcherSound {k : KeyIndex} {s : State} (h : MatcherSound s) (awake : s.power.state ≠ .asleep)
    (outside : k ∉ s.keys.downSet) : MatcherSound (takeIntoDownSet k s) := by
  have record : ∀ l ∈ s.keys.downSet, (takeIntoDownSet k s).record l = s.record l := fun l hl => by
    rw [takeIntoDownSet_record, if_neg]
    rintro rfl
    exact outside hl
  refine ⟨h.chords.kept rfl (h.chords.order.trans (List.sublist_append_left _ _)) fun l hl => ?_,
    h.repeatHold.keyPath (takeIntoDownSet_frame k s) awake h.repeatHold.timer fun l hl => ?_⟩
  · rw [record l (h.chords.order.subset hl)]
    exact ⟨rfl, rfl⟩
  · obtain ⟨down, unchorded, free⟩ := h.repeatHold.direct (hl.congr (s := s) rfl)
    exact ⟨List.mem_append_left _ down, by rwa [record l down], free⟩

/-- Distinct keys that fit into a slot and are not its member set are at most 3 (R52, R57). -/
theorem ChordTableSound.heldKeys_length_le {s : State} (table : ChordTableSound s.chords.slots) {i : SlotIndex}
    {c : ChordSlot} (hc : s.chords.slots[i] = some c) (once : s.heldKeys.Nodup) (fits : s.Fits c)
    (notEqual : ¬ s.Equals c) : s.chords.held.length ≤ 3 := by
  have length : s.heldKeys.length = s.chords.held.length := List.length_map _
  have within := List.subperm_of_subset once fits
  by_contra more
  refine notEqual ⟨fits, fun k hk => ?_⟩
  exact (within.perm_of_length_le (by have := (table.members i c hc).2.1; omega)).mem_iff.2 hk

/-- The matcher's decision on a held list that holds distinct unchorded keys in the down-set's order, each with its
admission time, while its window timer runs (R57). -/
theorem decideChord_matcherSound {s : State} (table : ChordTableSound s.chords.slots) (h : RepeatHoldSound s)
    (awake : s.power.state ≠ .asleep) (once : s.keys.downSet.Nodup) (order : s.heldKeys.Sublist s.keys.downSet)
    (window : s.chords.window.isSome = true ∧ s.chords.held ≠ [])
    (press : ∀ p ∈ s.chords.held, (s.record p.key).chorded = false ∧ (s.record p.key).admission = some p.time) :
    MatcherSound (decideChord s) := by
  rcases decideChord_outcome s with ⟨i, c, -, -, -, e⟩ | ⟨i, c, hc, fits, notEqual, e⟩ | ⟨-, e⟩ <;> rw [e]
  · exact completeChord_matcherSound table h awake
  · exact
      { chords :=
          { members := table.members
            distinct := table.distinct
            order := order
            atMost := table.heldKeys_length_le hc (order.nodup once) fits notEqual
            window := iff_of_true window.1 window.2
            press := press
            within := fun _ => ⟨i, c, hc, fun p hp => fits p.key (List.mem_map_of_mem hp)⟩ }
        repeatHold := h }
  · refine flushHeld_matcherSound table h awake fun k hk => ?_
    obtain ⟨p, hp, rfl⟩ := List.mem_map.1 hk
    exact ⟨order.subset hk, (press p hp).1⟩

/-- A press admitted of a key that was neither down nor chorded (R43). -/
theorem admitKey_matcherSound {k : KeyIndex} {s : State} (h : MatcherSound s) (awake : s.power.state ≠ .asleep)
    (once : s.keys.downSet.Nodup) (outside : k ∉ s.keys.downSet) (plain : (s.record k).chorded = false) :
    MatcherSound (admitKey k s) := by
  have taken := takeIntoDownSet_matcherSound h awake outside
  have record : (takeIntoDownSet k s).record k = _ := (takeIntoDownSet_record k s k).trans (if_pos rfl)
  have last : k ∈ (takeIntoDownSet k s).keys.downSet := List.mem_append_right _ (List.mem_singleton_self k)
  have joinedOnce : (s.keys.downSet ++ [k]).Nodup := by
    rw [← List.concat_eq_append]
    exact once.concat outside
  have unheld : k ∉ s.heldKeys := fun hk => outside (h.chords.order.subset hk)
  cases member : s.isMember k with
  | true =>
    rw [admitKey_of_member member, admitMember_eq]
    refine decideChord_matcherSound taken.chords.table ?_ awake ?_ ?_ ⟨?_, by simp [joinHeld]⟩ fun p hp => ?_
    · refine taken.repeatHold.keyPath (by constructor <;> intros <;> rfl) awake taken.repeatHold.timer fun l hl => ?_
      have before := hl.congr (s := s) rfl
      obtain ⟨down, unchorded, free⟩ := taken.repeatHold.direct (hl.congr rfl)
      refine ⟨down, unchorded, ?_⟩
      rw [joinHeld_heldKeys, List.mem_append, List.mem_singleton, not_or]
      exact ⟨free, fun e => outside (e ▸ (h.repeatHold.direct before).1)⟩
    · exact joinedOnce
    · rw [joinHeld_heldKeys]
      exact h.chords.order.append (List.Sublist.refl [k])
    · unfold joinHeld
      dsimp only
      split
      · rfl
      next collecting => exact h.chords.window.2 collecting
    · rcases List.mem_append.1 hp with older | newest
      · exact taken.chords.press p older
      · rw [List.mem_singleton.1 newest]
        exact ⟨(congrArg KeyRecord.chorded record).trans plain, congrArg KeyRecord.admission record⟩
  | false =>
    have unchorded : ((takeIntoDownSet k s).record k).chorded = false := by rw [record]; exact plain
    rw [admitKey_of_not_member member]
    split
    · exact handPress_matcherSound taken awake ⟨last, unchorded, unheld⟩
    · obtain ⟨f, keys, held, -⟩ := flushHeld_frame (takeIntoDownSet k s)
      have flushed := flushHeld_matcherSound taken.chords.table taken.repeatHold awake fun l => taken.chords.held_down
      exact handPress_matcherSound flushed (by rwa [f.power])
        ⟨keys ▸ last, by rwa [State.record_congr keys], by simp [State.heldKeys, held]⟩

/-! ### Release (R27, R28, R61) -/

/-- Steps 2 to 4 of the release path leave the chord matcher alone (R28). -/
theorem releasePath_chords (k : KeyIndex) (s : State) : (endRepeatHold k (reportRelease k s)).chords = s.chords := by
  rw [endRepeatHold_eq, reportRelease_eq]

/-- After step 4 the unit is at work for the keys of before but the released one (R28, R75, R78). -/
theorem releasePath_engaged {k l : KeyIndex} {s : State} (h : (endRepeatHold k (reportRelease k s)).Engaged l) :
    s.Engaged l ∧ l ≠ k := by
  rw [endRepeatHold_eq, reportRelease_eq] at h
  rcases h with owner | hold
  · dsimp only at owner
    split at owner
    · cases owner
    next other => exact ⟨.inl owner, fun e => other (e ▸ owner)⟩
  · have hn : l ≠ k := by
      rintro rfl
      simp at hold
    have hv : k.val ≠ l.val := fun e => hn (Fin.ext e.symm)
    exact ⟨.inr (by simpa [hv] using hold), hn⟩

theorem releasePath_timer {k : KeyIndex} {s : State} (h : s.TimerWithOwner) :
    (endRepeatHold k (reportRelease k s)).TimerWithOwner := by
  unfold State.TimerWithOwner
  rw [endRepeatHold_eq, reportRelease_eq]
  dsimp only
  split
  · exact iff_of_false nofun nofun
  · exact h

/-- A release is the rest of its path behind a flush, or without one where its key is not held back (R28, R61). -/
theorem releaseKey_cases (k : KeyIndex) (s : State) :
    (k ∉ s.heldKeys ∧ releaseKey k s = endRepeatHold k (reportRelease k (leaveDownSet k s))) ∨
      releaseKey k s = endRepeatHold k (reportRelease k (flushHeld (leaveDownSet k s))) := by
  unfold releaseKey
  simp only
  split
  · exact .inr rfl
  next other => exact .inl ⟨fun hk => other (List.contains_iff_mem.2 hk), rfl⟩

/-- Every other key that is down and unchorded is so after a release (R27). -/
theorem releaseKey_others {k l : KeyIndex} {s : State} (once : s.keys.downSet.Nodup) (hl : l ≠ k)
    (down : l ∈ s.keys.downSet ∧ (s.record l).chorded = false) :
    l ∈ (releaseKey k s).keys.downSet ∧ ((releaseKey k s).record l).chorded = false := by
  rw [releaseKey_downSet, releaseKey_record, if_neg hl]
  exact ⟨once.mem_erase_iff.2 ⟨hl, down.1⟩, down.2⟩

/-- A release confirmed (R27, R28). -/
theorem releaseKey_matcherSound {k : KeyIndex} {s : State} (h : MatcherSound s) (awake : s.power.state ≠ .asleep)
    (once : s.keys.downSet.Nodup) : MatcherSound (releaseKey k s) := by
  have f := releaseKey_frame k s
  rcases releaseKey_cases k s with ⟨free, e⟩ | e
  · refine ⟨h.chords.kept (by rw [e, releasePath_chords]; rfl) ?_ fun l hl => ?_,
      h.repeatHold.keyPath f awake (by rw [e]; exact releasePath_timer h.repeatHold.timer) fun l hl => ?_⟩
    · rw [releaseKey_downSet, ← List.erase_of_not_mem free]
      exact h.chords.order.erase k
    · rw [releaseKey_record, if_neg (by rintro rfl; exact free hl)]
      exact ⟨rfl, rfl⟩
    · rw [e] at hl
      obtain ⟨before, hn⟩ := releasePath_engaged hl
      obtain ⟨down, unchorded, unheld⟩ := h.repeatHold.direct (before.congr (s := s) rfl)
      obtain ⟨downAfter, unchordedAfter⟩ := releaseKey_others once hn ⟨down, unchorded⟩
      exact ⟨downAfter, unchordedAfter, fun hh => unheld (releaseKey_held k s l hh).1⟩
  · obtain ⟨-, -, held, window⟩ := flushHeld_frame (leaveDownSet k s)
    rw [← releasePath_chords k, ← e] at held window
    refine ⟨chordsSound_of_idle (f.slots ▸ h.chords.table) held window, h.repeatHold.keyPath f awake
      (by rw [e]; exact releasePath_timer (flushHeld_timer h.repeatHold.timer)) fun l hl => ?_⟩
    rw [e] at hl
    obtain ⟨flushed, hn⟩ := releasePath_engaged hl
    have down : l ∈ s.keys.downSet ∧ (s.record l).chorded = false := by
      rcases flushHeld_engaged flushed with before | heldBefore
      · obtain ⟨down, unchorded, -⟩ := h.repeatHold.direct (before.congr (s := s) rfl)
        exact ⟨down, unchorded⟩
      · exact h.chords.held_down (s := s) heldBefore
    obtain ⟨downAfter, unchordedAfter⟩ := releaseKey_others once hn down
    exact ⟨downAfter, unchordedAfter, by simp [State.heldKeys, held]⟩

/-! ### The debounce step and the sample event (R5, R19 to R25) -/

/-- A key that is neither DOWN nor BREAKING is neither in the down-set nor chorded (R44, R66). -/
theorem pressAdmission_matcherSound {k : KeyIndex} {s : State} (h : KeysSound s) (awake : s.power.state ≠ .asleep)
    (free : (s.record k).isHeldDown = false) : MatcherSound (pressAdmission k s) := by
  have outside : k ∉ s.keys.downSet := fun hk => by simp [(h.downSet.exactly k).1 hk] at free
  have plain : (s.record k).chorded = false := by
    by_contra chorded
    simp [h.records.chorded k (by simpa using chorded)] at free
  have refused : ∀ reason, MatcherSound (blockKey k reason s) := fun reason =>
    h.matcher.frame (setRecord_matcher rfl rfl)
  unfold pressAdmission
  split
  · exact (refused .ghost).frame (.same rfl rfl rfl rfl rfl rfl)
  · split
    · exact (refused .rollover).frame (.same rfl rfl rfl rfl rfl rfl)
    · exact admitKey_matcherSound h.matcher awake h.downSet.once outside plain

theorem debounceStep_matcherSound {k : KeyIndex} {s : State} (h : KeysSound s) (awake : s.power.state ≠ .asleep) :
    MatcherSound (debounceStep k s) := by
  rcases debounceStep_cases k s with e | ⟨phase, count, e⟩ | ⟨-, e⟩ | ⟨-, phase, e⟩ | ⟨-, -, e⟩ <;> rw [e]
  · exact h.matcher
  · exact h.matcher.frame (setRecord_matcher rfl rfl)
  · exact h.matcher.frame (setRecord_matcher rfl rfl)
  · exact pressAdmission_matcherSound h awake (by rcases phase with hp | hp <;> simp [KeyRecord.isHeldDown, hp])
  · exact releaseKey_matcherSound h.matcher awake h.downSet.once

/-- The debounce step of a key of a scanned position keeps the whole key path sound (R19 to R25). -/
theorem debounceStep_keysSound {k : KeyIndex} {s : State} (h : KeysSound s) (awake : s.power.state ≠ .asleep)
    (scanned : ¬ (s.scan.config.positions ≤ k.val / 8 ∨ s.scan.config.keyScanning = false)) :
    KeysSound (debounceStep k s) where
  scan := h.scan.congr (debounceStep_frame k s).scan
  records := (debounceStep_ready h.ready h.scan.inForce scanned).sound
  downSet := debounceStep_downSetSound h.downSet awake
  chords := (debounceStep_matcherSound h awake).chords
  repeatHold := (debounceStep_matcherSound h awake).repeatHold

theorem debounceSteps_keysSound {p : Position} (lines : List ReturnLine) {s : State} (h : KeysSound s)
    (awake : s.power.state ≠ .asleep) (position : p.val < s.scan.config.positions)
    (scanning : s.scan.config.keyScanning = true) :
    KeysSound (lines.foldl (fun s l => debounceStep (keyAt p l) s) s) := by
  induction lines generalizing s with
  | nil => exact h
  | cons l rest ih =>
    have f := debounceStep_frame (keyAt p l) s
    have scanned : ¬ (s.scan.config.positions ≤ (keyAt p l).val / 8 ∨ s.scan.config.keyScanning = false) := by
      rw [keyAt_div, scanning]
      simp only [Bool.true_eq_false, or_false]
      omega
    exact ih (debounceStep_keysSound h awake scanned) (by rwa [f.power]) (by rwa [f.scan]) (by rwa [f.scan])

/-- Taking the contact flags of a scanned position keeps the key path sound (R5, R7). -/
theorem updateContacts_keysSound {p : Position} {s : State} (h : KeysSound s)
    (position : p.val < s.scan.config.positions) (scanning : s.scan.config.keyScanning = true) :
    KeysSound (allLines.foldl (updateContact p) s) := by
  obtain ⟨table, e⟩ := updateContacts_frame p allLines s
  have record := updateContacts_record p allLines s
  rw [e] at record ⊢
  have taken : MatcherFrame s { s with keys.table := table } :=
    { downSet := rfl, record := fun k _ => by rw [(record k).1]; exact ⟨rfl, rfl⟩, chords := rfl, repeatHold := rfl,
      quiet := fun hq => hq }
  refine ⟨h.scan.congr rfl, (recordsSound_iff _).2 fun k => ?_,
    h.downSet.of_phase rfl (fun k => by rw [(record k).1]) rfl id, (h.matcher.frame taken).chords,
    (h.matcher.frame taken).repeatHold⟩
  obtain ⟨count, reason, admission, chorded, disabled, unscanned⟩ := (recordsSound_iff s).1 h.records k
  obtain ⟨same, other⟩ := record k
  by_cases hk : keyPosition k = p
  · rw [same]
    refine ⟨count, reason, admission, chorded, disabled, fun hu => ?_⟩
    have hp : k.val / 8 = p.val := congrArg Fin.val hk
    rcases hu with beyond | off
    · exact absurd (hp ▸ beyond) (Nat.not_le.2 position)
    · exact absurd (off.symm.trans scanning) nofun
  · rw [other hk]
    exact ⟨count, reason, admission, chorded, disabled, unscanned⟩

/-- The sample event of a scanned position, with key scanning on, keeps the whole key path sound (R5). -/
theorem sampleEvent_keysSound {p : Position} {s : State} (h : KeysSound s) (awake : s.power.state ≠ .asleep)
    (position : p.val < s.scan.config.positions) (scanning : s.scan.config.keyScanning = true) :
    KeysSound (sampleEvent p s) := by
  have taken := updateContacts_keysSound h position scanning
  obtain ⟨table, e⟩ := updateContacts_frame p allLines s
  unfold sampleEvent
  rw [e] at taken ⊢
  exact debounceSteps_keysSound allLines taken awake position scanning

end Sys2Proof.Machine
end

section
/-!
Obligations O55 and O56, from the sample event to every step. Most commands leave the matcher and the repeat and hold
unit alone (`MatcherFrame`); the others are SLOT_END, the expiries of the chord window, repeat and hold timers,
SET_CHORD, SET_TIMING, and those that reset the part.
-/
namespace Sys2Proof.Machine

/-! ### SLOT_END (R4, R13, R164) -/

/-- A configuration applied rewrites contact flags alone of the key state table (R14). -/
theorem applyConfig_matcher (c : ScanConfig) (s : State) : MatcherFrame s (applyConfig c s) where
  downSet := applyConfig_downSet c s
  record k _ := by
    simp only [applyConfig, State.record, contactsApplied, Fin.getElem_fin, Vector.getElem_ofFn]
    split <;> exact ⟨rfl, rfl⟩
  chords := rfl
  repeatHold := rfl
  quiet h := h

theorem settlePending_matcher (s : State) : MatcherFrame s (settlePending s) := by
  have taken : MatcherFrame s { s with scan.pendingScan := none } := .same rfl rfl rfl rfl rfl rfl
  rcases settlePending_cases s with ⟨-, e⟩ | ⟨q, -, ⟨-, e⟩ | ⟨-, e⟩⟩ <;> rw [e]
  · exact .refl s
  · exact (taken.trans (applyConfig_matcher _ _)).trans (.same rfl rfl rfl rfl rfl rfl)
  · exact taken.trans (.same rfl rfl rfl rfl rfl rfl)

theorem endSlot_matcherSound {s : State} (h : KeysSound s) (awake : s.power.state ≠ .asleep) :
    MatcherSound (endSlot s) := by
  have sampled : MatcherSound (if s.scan.config.keyScanning then sampleEvent s.scan.slotIndex s else s) := by
    split
    next scanning => exact (sampleEvent_keysSound h awake h.scan.slot scanning).matcher
    next => exact h.matcher
  have released := sampled.frame (t := releaseSlot _) (.same rfl rfl rfl rfl rfl rfl)
  rw [endSlot_eq]
  split
  · exact released.frame (settlePending_matcher _)
  · exact released

/-- The key path is sound whatever the levels of the pins, and with RESTART's key sample taken. -/
theorem KeysSound.congr {s t : State} (h : KeysSound s) (scan : ScanSound t) (config : t.scan.config = s.scan.config)
    (map : t.keys.map = s.keys.map) (table : t.keys.table = s.keys.table) (f : MatcherFrame s t)
    (power : t.power.state = s.power.state) : KeysSound t where
  scan := scan
  records := h.records.congr table map config
  downSet := h.downSet.congr f.downSet table config fun ha => power ▸ ha
  chords := (h.matcher.frame f).chords
  repeatHold := (h.matcher.frame f).repeatHold

theorem takeReading_matcherSound {returns : Byte} {s : State} (h : KeysSound s) :
    MatcherSound (takeReading returns s) := by
  have present : KeysSound (presentReturns returns s) :=
    h.congr (h.scan.congr rfl) rfl rfl rfl (.same rfl rfl rfl rfl rfl rfl) rfl
  rcases takeReading_cases returns s with ⟨awake, -, e⟩ | ⟨p, awake, -, hc, e⟩ | ⟨-, e⟩ <;> rw [e]
  · exact endSlot_matcherSound present awake
  · obtain ⟨-, scanning, position⟩ := h.scan.cut p hc
    have spent : KeysSound { presentReturns returns s with scan.cutSlot := none } :=
      present.congr ⟨h.scan.inForce, h.scan.waiting, h.scan.slot, nofun⟩ rfl rfl rfl (.same rfl rfl rfl rfl rfl rfl) rfl
    exact (sampleEvent_keysSound spent awake position scanning).matcher
  · exact h.matcher

/-! ### Expiries of the key path (R63, R74, R78) -/

/-- A part with a key down is not ASLEEP (R44, R133). -/
theorem DownSetSound.awake {s : State} (h : DownSetSound s) {k : KeyIndex} (hk : k ∈ s.keys.downSet) :
    s.power.state ≠ .asleep := fun asleep => by
  rw [h.eq_nil_of_allUp (h.asleep asleep)] at hk
  cases hk

theorem isSome_of_timerDue {t : Timer} {now : Time} (h : timerDue t now = true) : t.isSome = true := by
  cases t with
  | none => cases h
  | some d => rfl

/-- The chord window runs over a held list, whose keys are down (R54, R55). -/
theorem liveStep_chordWindowExpiry_matcherSound {s : State} (h : KeysSound s) :
    MatcherSound (liveStep .chordWindowExpiry s) := by
  simp only [liveStep]
  split
  next due =>
    obtain ⟨p, hp⟩ := List.exists_mem_of_ne_nil _ (h.chords.window.1 (isSome_of_timerDue due))
    have down := (h.chords.held_down (List.mem_map_of_mem hp)).1
    exact expireWindow_matcherSound h.matcher (h.downSet.awake down)
  next => exact h.matcher

/-- A REPEAT leaves its owner owner, and the repeat timer running (R74). -/
theorem expireRepeat_matcherSound {o : RepeatOwner} {s : State} (h : KeysSound s)
    (owner : s.repeatHold.owner = some o) : MatcherSound (expireRepeat o s) := by
  have f : KeyPathFrame s (expireRepeat o s) := by constructor <;> intros <;> rfl
  have awake := h.downSet.awake (h.repeatHold.owner o owner).1
  refine ⟨h.chords.kept rfl h.chords.order fun _ _ => ⟨rfl, rfl⟩,
    h.repeatHold.keyPath f awake (iff_of_true rfl rfl) fun k hk => ?_⟩
  have before : s.Engaged k := hk.imp_left fun same => by rw [owner]; exact same
  exact h.repeatHold.direct before

/-- A HOLD leaves its key's hold timer stopped (R78). -/
theorem expireHold_matcherSound {k : KeyIndex} {s : State} (h : KeysSound s)
    (running : s.repeatHold.holdTimers[k].isSome = true) : MatcherSound (expireHold k s) := by
  have f : KeyPathFrame s (expireHold k s) := by constructor <;> intros <;> rfl
  have awake := h.downSet.awake (h.repeatHold.hold k running).1
  refine ⟨h.chords.kept rfl h.chords.order fun _ _ => ⟨rfl, rfl⟩,
    h.repeatHold.keyPath f awake h.repeatHold.timer fun l hl => ?_⟩
  have before : s.Engaged l := hl.imp_right fun still => by
    by_cases hk : k.val = l.val
    · simp [expireHold, hk] at still
    · simpa [expireHold, hk] using still
  exact h.repeatHold.direct before

/-! ### Wake, sleep, resets and the link side -/

theorem LinkSideFrame.matcher {s t : State} (f : LinkSideFrame s t) : MatcherFrame s t :=
  .same (congrArg KeyBlock.downSet f.keys) (congrArg KeyBlock.table f.keys) f.chords f.repeatHold f.queue
    (congrArg PowerBlock.state f.power)

/-- The link side leaves the key path sound. -/
theorem LinkSideFrame.keysSound {s t : State} (f : LinkSideFrame s t) (h : KeysSound s) : KeysSound t :=
  h.congr (h.scan.congr f.scan) (congrArg ScanBlock.config f.scan) (congrArg KeyBlock.map f.keys)
    (congrArg KeyBlock.table f.keys) f.matcher (congrArg PowerBlock.state f.power)

/-- A wake rewrites the records of a part that has no key down (R31, R133). -/
theorem wakePart_matcher {cause : WakeCause} {s : State} (h : DownSetSound s) (asleep : s.power.state = .asleep) :
    MatcherFrame s (wakePart cause s) where
  downSet := rfl
  record _ hk := absurd asleep (h.awake hk)
  chords := rfl
  repeatHold := rfl
  quiet _ := nofun

theorem byteArrives_matcher {s : State} (h : DownSetSound s) : MatcherFrame s (byteArrives s) := by
  unfold byteArrives
  split
  · exact .refl s
  · exact .same rfl rfl rfl rfl rfl rfl
  next asleep => exact wakePart_matcher h asleep

/-- The part falls asleep with no key event in the queue (R132). -/
theorem queue_eq_nil_of_sleepObstacle {s : State} (h : s.sleepObstacle = none) : s.queue = [] := by
  by_contra waiting
  have some_waits : s.queue.isEmpty = false := by simpa using waiting
  simp only [State.sleepObstacle, some_waits, Bool.not_false, Bool.or_true, Bool.true_or, if_true] at h
  split at h <;> cases h

theorem checkSleepEntry_matcher (s : State) : MatcherFrame s (checkSleepEntry s) := by
  unfold checkSleepEntry
  split
  · exact { downSet := rfl, record := fun _ _ => ⟨rfl, rfl⟩, chords := rfl, repeatHold := rfl, quiet := fun _ => nofun }
  next clear =>
    have empty := queue_eq_nil_of_sleepObstacle clear
    exact
      { downSet := rfl, record := fun _ _ => ⟨rfl, rfl⟩, chords := rfl, repeatHold := rfl, quiet := fun _ _ => empty }

theorem matcherSound_of_reset {s : State} (keys : s.keys = resetKeys) (chords : s.chords = resetChords)
    (repeatHold : s.repeatHold = resetRepeatHold) (queue : s.queue = []) : MatcherSound s :=
  reset_keysSound.matcher.frame
    { downSet := congrArg KeyBlock.downSet keys
      record := fun k _ => by rw [State.record_congr (s := State.reset) keys]; exact ⟨rfl, rfl⟩
      chords := chords
      repeatHold := repeatHold
      quiet := fun _ _ => queue }

theorem endTransmission_matcherSound {f : TxFrame} {s : State} (h : MatcherSound s) :
    MatcherSound (endTransmission f s) := by
  have idle : MatcherFrame s { s with link.tx := none } := .same rfl rfl rfl rfl rfl rfl
  rcases endTransmission_cases f s with ⟨-, e⟩ | ⟨-, -, -, e⟩ | ⟨-, -, e⟩ | e <;> rw [e]
  · exact h.frame (idle.trans (noticeSent_linkSide _ _).1.matcher)
  · exact matcherSound_of_reset rfl rfl rfl rfl
  · exact h.frame (idle.trans (checkSleepEntry_matcher _))
  · exact h.frame idle

theorem sweepOnce_matcher {s : State} (h : DownSetSound s) (due : s.sweepDue = true) :
    MatcherFrame s (sweepOnce s) := by
  simp only [State.sweepDue, Bool.and_eq_true, beq_iff_eq] at due
  obtain ⟨⟨asleep, -⟩, -⟩ := due
  have driven : MatcherFrame s (sweepLines s) := .same rfl rfl rfl rfl rfl rfl
  unfold sweepOnce settleSweep
  split
  · exact driven.trans (wakePart_matcher (h.congr rfl rfl rfl id) asleep)
  · exact driven.trans (.same rfl rfl rfl rfl rfl rfl)

/-! ### Events -/

theorem takeSample_matcher (ch : Channel) (s : State) : MatcherFrame s (takeSample ch s) := by
  unfold takeSample
  simp only
  split <;> exact .same (by simp) (by simp) (by simp) (by simp) (by simp) (by simp)

theorem expireCoalescing_matcher {ch : Channel} {s : State} (h : DownSetSound s) :
    MatcherFrame s (expireCoalescing ch s) := by
  have stopped : MatcherFrame s (s.setChannel ch { s.channel ch with timer := none }) :=
    .same (by simp) (by simp) (by simp) (by simp) (by simp) (by simp)
  unfold expireCoalescing
  simp only
  split
  next wakes =>
    exact stopped.trans (wakePart_matcher (h.congr (by simp) (by simp) (by simp) (by simp)) (by simpa using wakes.1))
  next => exact stopped

/-- A composition may drain the queue, but leaves the keys, the matcher, and repeat and hold alone; none is made while
ASLEEP (R169). -/
theorem composeNotice_matcher (s : State) : MatcherFrame s (composeNotice s) := by
  have composed : ∀ c, s.power.state ≠ .asleep → MatcherFrame s (composeClass c s) := by
    intro c awake
    have blocks : (composeClass c s).keys = s.keys ∧ (composeClass c s).chords = s.chords ∧
        (composeClass c s).repeatHold = s.repeatHold ∧ (composeClass c s).power = s.power := by
      unfold composeClass
      split
      · split <;> exact ⟨rfl, rfl, rfl, rfl⟩
      · split <;> exact ⟨rfl, rfl, rfl, rfl⟩
      all_goals exact ⟨rfl, rfl, rfl, rfl⟩
    obtain ⟨keys, chords, repeatHold, power⟩ := blocks
    exact
      { downSet := congrArg KeyBlock.downSet keys
        record := fun k _ => by rw [State.record_congr keys]; exact ⟨rfl, rfl⟩
        chords := chords
        repeatHold := repeatHold
        quiet := fun _ asleep => absurd asleep (by rwa [power]) }
  unfold composeNotice
  split
  · split
    next may =>
      simp only [State.mayCompose, Bool.and_eq_true, bne_iff_ne] at may
      exact composed _ may.2
    next => exact .refl s
  · exact .refl s

theorem completeHeld_matcher {sort : Byte → Bool} {settle : Frame → State → State} {s : State} (h : DownSetSound s)
    (side : ∀ f u, LinkSideFrame u (settle f u)) : MatcherFrame s (completeHeld sort settle s) := by
  rcases completeHeld_cases sort settle s with e | ⟨f, -, -, e⟩ <;> rw [e]
  · exact .refl s
  · have high : MatcherFrame s { s with link.lineHeld := false } := .same rfl rfl rfl rfl rfl rfl
    have arrived := byteArrives_matcher (s := { s with link.lineHeld := false }) (h.congr rfl rfl rfl id)
    exact (high.trans arrived).trans ((huntAgain_linkSide _).trans (side f _)).matcher

theorem liveStep_matcherSound (c : Instr) {s : State} (h : KeysSound s) : MatcherSound (liveStep c s) := by
  have present : ∀ pins, MatcherFrame s (presentEncoderPins pins s) := fun pins => .same rfl rfl rfl rfl rfl rfl
  have presentDown : ∀ pins, DownSetSound (presentEncoderPins pins s) := fun pins => h.downSet.congr rfl rfl rfl id
  have m := h.matcher
  cases c
  case slotEnd returns => exact takeReading_matcherSound h
  case chordWindowExpiry => exact liveStep_chordWindowExpiry_matcherSound h
  case repeatTimerExpiry =>
    simp only [liveStep]
    split
    next o owner =>
      split
      · exact expireRepeat_matcherSound h owner
      · exact m
    next => exact m
  case holdTimerExpiry k =>
    simp only [liveStep]
    split
    next due => exact expireHold_matcherSound h (isSome_of_timerDue due)
    next => exact m
  case endOfTransmission pins =>
    have presented := m.frame (present pins)
    simp only [liveStep]
    split
    · exact endTransmission_matcherSound presented
    · exact presented
  all_goals refine m.frame ?_
  case millisecondTick => exact .same rfl rfl rfl rfl rfl rfl
  case gapTimerExpiry => exact (expireGap_linkSide s).matcher
  case noticeComposition => exact composeNotice_matcher s
  case acknowledgementTimerExpiry => exact (expireAck_linkSide s).1.matcher
  case ack =>
    exact completeHeld_matcher (sort := fun k => k == ackKind)
      (settle := fun f t => reportValidFrame (settleAck f t)) h.downSet fun f u =>
      (settleAck_linkSide f u).trans (reportValidFrame_linkSide _)
  case requestArrival =>
    exact completeHeld_matcher (settle := fun f u => { settleArrival f u with link.reportOwed := true }) h.downSet
      fun f u => (settleArrival_linkSide f u).trans (by constructor <;> rfl)
  case unknownKindFrame =>
    exact completeHeld_matcher (sort := fun k => !isKnownKind k)
      (settle := fun f t => reportValidFrame (settleUnknown f t)) h.downSet fun f u =>
      (settleUnknown_linkSide f u).trans (reportValidFrame_linkSide _)
  case slotStart =>
    simp only [liveStep]
    split
    · exact .same rfl rfl rfl rfl rfl rfl
    · exact .refl s
  case encoderSample ch q =>
    have presented : MatcherFrame s (presentPair ch q s) := by cases ch <;> exact .same rfl rfl rfl rfl rfl rfl
    simp only [liveStep]
    split
    · exact presented.trans (takeSample_matcher ch _)
    · exact presented
  case coalescingTimerExpiry ch pins =>
    simp only [liveStep]
    split
    · exact (present pins).trans (expireCoalescing_matcher (presentDown pins))
    · exact present pins
  case encoderPinChange pins =>
    simp only [liveStep]
    split
    next wakes => exact (present pins).trans (wakePart_matcher (presentDown pins) wakes.1)
    next => exact present pins
  case blinkTimerExpiry =>
    simp only [liveStep, expireBlink]
    split
    · exact .same rfl rfl rfl rfl rfl rfl
    · exact .refl s
  case testTimerExpiry =>
    simp only [liveStep, expireTest]
    split
    · exact .same rfl rfl rfl rfl rfl rfl
    · exact .refl s
  case wakeSweep returns pins =>
    have presented : MatcherFrame s (presentEncoderPins pins (presentReturns returns s)) :=
      .same rfl rfl rfl rfl rfl rfl
    simp only [liveStep]
    split
    next due => exact presented.trans (sweepOnce_matcher (h.downSet.congr rfl rfl rfl id) due)
    next => exact presented
  case receiveByte b sawHigh pins =>
    have high : MatcherFrame s { presentEncoderPins pins s with link.lineHeld := false } :=
      .same rfl rfl rfl rfl rfl rfl
    have arrived := byteArrives_matcher (s := { presentEncoderPins pins s with link.lineHeld := false })
      (h.downSet.congr rfl rfl rfl id)
    simp only [liveStep]
    split
    · exact (high.trans arrived).trans (takeByte_linkSide b _).matcher
    · exact present pins
  case framingError sawHigh pins =>
    simp only [liveStep]
    split
    · exact ((present pins).trans (byteArrives_matcher (presentDown pins))).trans (takeFramingError_linkSide _).matcher
    · exact present pins
  case arbiterChoice =>
    simp only [liveStep]
    split
    · exact (chooseFrame_linkSide s).matcher
    · exact .refl s
  all_goals exact .refl s

/-! ### SET_CHORD and SET_TIMING (R67, R68, R81) -/

/-- An accepted record is in range and has no other slot's member set (R67). -/
theorem checkChord_ok {p : List Byte} {s : State} {q : ChordRequest} (h : checkChord p s = .ok q) {c : ChordSlot}
    (hc : q.record = some c) :
    (2 ≤ c.members.length ∧ c.members.length ≤ 4 ∧ c.members.Nodup) ∧
      ∀ (i : SlotIndex) (d : ChordSlot), i ≠ q.slot → s.chords.slots[i] = some d →
        ¬ ∀ k, k ∈ c.members ↔ k ∈ d.members := by
  cases hp : readChord p with
  | error code =>
    rw [checkChord_of_error hp] at h
    cases h
  | ok q' =>
    rw [checkChord_of_ok hp] at h
    split at h
    · cases h
    next free =>
      injection h with h
      subst h
      refine ⟨?_, fun i d hi hd same => free ((chordConflicts_iff hc).2 ⟨i, d, hi, hd, same⟩)⟩
      obtain ⟨slot, code, count, members, length, ⟨-, h1, h4, inRange, distinct⟩, rfl⟩ := readChord_ok hp
      dsimp only [namedChord] at hc
      split at hc
      · cases hc
      next occupied =>
        rw [← Option.some.inj hc]
        have keys : (namedKeys members).length = members.length := List.length_map _
        have := List.length_pos_iff.2 occupied
        exact ⟨by dsimp only; omega, by dsimp only; omega, (namedKeys_nodup inRange).2 distinct⟩

/-- A slot emptied, or written with a record in range that has no other slot's member set (R52). -/
theorem ChordTableSound.set {slots : Vector (Option ChordSlot) 8} (h : ChordTableSound slots) {n : SlotIndex}
    {r : Option ChordSlot}
    (record : ∀ c, r = some c → (2 ≤ c.members.length ∧ c.members.length ≤ 4 ∧ c.members.Nodup) ∧
      ∀ (i : SlotIndex) (d : ChordSlot), i ≠ n → slots[i] = some d → ¬ ∀ k, k ∈ c.members ↔ k ∈ d.members) :
    ChordTableSound (slots.set n r) := by
  have written : (slots.set n r)[n] = r := by simp
  have other : ∀ i : SlotIndex, i ≠ n → (slots.set n r)[i] = slots[i] := fun i hi => by
    have hv : n.val ≠ i.val := fun e => hi (Fin.ext e.symm)
    simp [hv]
  refine ⟨fun i c hc => ?_, fun i j hij c d hc hd => ?_⟩
  · by_cases hi : i = n
    · subst hi; rw [written] at hc; exact (record c hc).1
    · rw [other i hi] at hc; exact h.members i c hc
  · by_cases hi : i = n
    · subst hi
      rw [written] at hc
      rw [other j hij.symm] at hd
      exact (record c hc).2 j d hij.symm hd
    · rw [other i hi] at hc
      by_cases hj : j = n
      · subst hj
        rw [written] at hd
        exact fun same => (record d hd).2 i c hij hc fun k => (same k).symm
      · rw [other j hj] at hd
        exact h.distinct i j hij c d hc hd

/-- An accepted SET_CHORD meets an IDLE matcher, its held list flushed (R68). -/
theorem writeChord_matcherSound {p : List Byte} {q : ChordRequest} {s : State} (h : MatcherSound s)
    (awake : s.power.state ≠ .asleep) (accepted : checkChord p s = .ok q) : MatcherSound (writeChord q s) := by
  have write : ∀ u, MatcherSound u → u.chords.held = [] →
      MatcherSound { u with chords.slots := s.chords.slots.set q.slot q.record } := fun u hu idle =>
    { chords := chordsSound_of_idle (h.chords.table.set fun c => checkChord_ok accepted) idle <| by
        have stopped := mt hu.chords.window.1 (not_not.2 idle)
        simpa using stopped
      repeatHold := ⟨hu.repeatHold.owner, hu.repeatHold.timer, hu.repeatHold.hold, hu.repeatHold.delay,
        hu.repeatHold.period, hu.repeatHold.time, hu.repeatHold.window, hu.repeatHold.quiet⟩ }
  rw [writeChord_eq]
  split
  next idle => exact write s h idle
  next =>
    exact write _ (flushHeld_matcherSound h.chords.table h.repeatHold awake fun k => h.chords.held_down)
      (flushHeld_frame s).2.2.1

/-- The four settings that SET_TIMING accepts are in range (R71, R81). -/
theorem readTiming_ok {p : List Byte} {q : TimingRequest} (h : readTiming p = .ok q) :
    (100 ≤ q.repeatDelay ∧ q.repeatDelay ≤ 2000) ∧ (20 ≤ q.repeatPeriod ∧ q.repeatPeriod ≤ 500) ∧
      (200 ≤ q.holdTime ∧ q.holdTime ≤ 5000) ∧ (10 ≤ q.chordWindow ∧ q.chordWindow ≤ 250) := by
  unfold readTiming at h
  split at h
  next delay period hold window =>
    have h := orRange_ok h
    simp only [Option.bind_eq_bind, Option.bind_eq_some_iff, Option.pure_def, Option.some.injEq] at h
    obtain ⟨d, hd, r, hr, t, ht, w, hw, rfl⟩ := h
    have := (readRange_some hd).2
    have := (readRange_some hr).2
    have := (readRange_some ht).2
    have := (readRange_some hw).2
    dsimp only
    omega
  next => cases h

theorem setTiming_matcherSound {p : List Byte} {q : TimingRequest} {s : State} (h : MatcherSound s)
    (accepted : readTiming p = .ok q) : MatcherSound (setTiming q s) := by
  obtain ⟨delay, period, time, window⟩ := readTiming_ok accepted
  exact
    { chords := h.chords.kept rfl h.chords.order fun _ _ => ⟨rfl, rfl⟩
      repeatHold := ⟨h.repeatHold.owner, h.repeatHold.timer, h.repeatHold.hold, delay, period, time, window,
        h.repeatHold.quiet⟩ }

/-! ### Requests -/

theorem whenServing_matcherSound {f : State → State} {s t : State} (he : whenServing f s = .next t)
    (h : MatcherSound s) (hf : MatcherSound (f s)) : MatcherSound t := by
  rcases whenServing_next he with ⟨-, rfl⟩ | ⟨-, rfl⟩
  · exact hf.frame (deliverReport_linkSide _).matcher
  · exact h

theorem serve_matcherSound {kind : Byte} {execute : Frame → State → State} {s : State} (h : MatcherSound s)
    (hx : ∀ r u, MatcherSound u → u.power.state ≠ .asleep → MatcherSound (execute r u)) :
    MatcherSound (serve kind execute s) :=
  serve_keeps h fun r _ _ taken _ => by
    have awake := ((canTake_iff s).1 taken).2.1
    exact hx r _ (h.frame (.same rfl rfl rfl rfl rfl rfl)) fun asleep => by rw [awake] at asleep; cases asleep

/-- A request answered at execution keeps the matcher sound if its effect does (R157). -/
theorem serve_answer_matcherSound {α : Type} {kind : Byte} {fields : Frame → State → Read α}
    {effect : α → State → State} {reply : α → State → List Byte} {s : State} (h : MatcherSound s)
    (heff : ∀ r a u, fields r u = .ok a → MatcherSound u → u.power.state ≠ .asleep → MatcherSound (effect a u)) :
    MatcherSound (serve kind (fun r u => answer (fields r u) effect reply r u) s) :=
  serve_matcherSound h fun r u hu awake => answer_keeps (fun p => hu.frame (finishRequest_linkSide r p u).matcher)
    fun a p ok => (heff r a u ok hu awake).frame (finishRequest_linkSide r p _).matcher

/-- The same for an effect that leaves the matcher and the repeat and hold unit alone. -/
theorem serve_answer_matcherFrame {α : Type} {kind : Byte} {fields : Frame → State → Read α}
    {effect : α → State → State} {reply : α → State → List Byte} {s : State} (h : MatcherSound s)
    (heff : ∀ a u, MatcherFrame u (effect a u)) :
    MatcherSound (serve kind (fun r u => answer (fields r u) effect reply r u) s) :=
  serve_answer_matcherSound h fun _ a u _ hu _ => hu.frame (heff a u)

theorem executeSleep_matcher (r : Frame) (u : State) : MatcherFrame u (executeSleep r u) := by
  unfold executeSleep
  split
  · exact .same rfl rfl rfl rfl rfl rfl
  · split
    · exact
        { downSet := rfl, record := fun _ _ => ⟨rfl, rfl⟩, chords := rfl, repeatHold := rfl, quiet := fun _ => nofun }
    · exact .same rfl rfl rfl rfl rfl rfl

theorem exec_request_matcherSound {c : Instr} {kind : Byte} {s t : State} (hk : c.requestKind = some kind)
    (h : MatcherSound s) (he : exec c s = .next t) : MatcherSound t := by
  cases c
  case restart =>
    refine whenServing_matcherSound he h (serve_matcherSound h fun r u hu _ => hu.frame ?_)
    unfold executeRestart
    split <;> exact .same rfl rfl rfl rfl rfl rfl
  case setScan =>
    refine whenServing_matcherSound he h (serve_matcherSound h fun r u hu _ => hu.frame ?_)
    unfold executeSetScan
    split <;> exact .same rfl rfl rfl rfl rfl rfl
  case sleep =>
    exact whenServing_matcherSound he h (serve_matcherSound h fun r u hu _ => hu.frame (executeSleep_matcher r u))
  case setChord =>
    exact whenServing_matcherSound he h (serve_answer_matcherSound (fields := fun r u => checkChord r.payload u) h
      fun r q u ok hu awake => writeChord_matcherSound hu awake ok)
  case setTiming =>
    exact whenServing_matcherSound he h (serve_answer_matcherSound (fields := fun r _ => readTiming r.payload) h
      fun r q u ok hu _ => setTiming_matcherSound hu ok)
  case setEncoders pins =>
    have he : execSetEncoders pins s = .next t := he
    unfold execSetEncoders at he
    refine whenServing_matcherSound he h
      (serve_answer_matcherFrame (h.frame (.same rfl rfl rfl rfl rfl rfl)) fun q u => ?_)
    unfold setEncoders
    exact .same (by simp) (by simp) (by simp) (by simp) (by simp) (by simp)
  case flushKeys =>
    exact whenServing_matcherSound he h (serve_answer_matcherFrame h fun _ u =>
      { downSet := rfl, record := fun _ _ => ⟨rfl, rfl⟩, chords := rfl, repeatHold := rfl, quiet := fun _ _ => rfl })
  case readEncoders =>
    refine whenServing_matcherSound he h (serve_answer_matcherFrame h fun clear u => ?_)
    cases clear <;> exact .same rfl rfl rfl rfl rfl rfl
  case getLinkStats =>
    refine whenServing_matcherSound he h (serve_answer_matcherFrame h fun clear u => ?_)
    cases clear <;> exact .same rfl rfl rfl rfl rfl rfl
  case setGlyphs =>
    refine whenServing_matcherSound he h (serve_answer_matcherFrame h fun (bank, start, patterns) u => ?_)
    cases bank <;> exact .same rfl rfl rfl rfl rfl rfl
  case identify | getStatus | setKeymap | getKeymap | readKeys | getChord | writeDisplay | setDisplay | displayTest |
      readDisplay | setNotices =>
    exact whenServing_matcherSound he h (serve_answer_matcherFrame h fun _ u => .same rfl rfl rfl rfl rfl rfl)
  all_goals cases hk

/-! ### Every command -/

theorem exec_matcherSound {c : Instr} {s t : State} (h : KeysSound s) (he : exec c s = .next t) : MatcherSound t := by
  cases hk : c.requestKind with
  | some kind => exact exec_request_matcherSound hk h.matcher he
  | none =>
    by_cases hreset : ∃ cause spd pins, c = .hardwareReset cause spd pins
    · obtain ⟨cause, spd, pins, rfl⟩ := hreset
      simp only [exec, execHardwareReset] at he
      split at he <;> injection he with he <;> subst he
      · exact matcherSound_of_reset rfl rfl rfl rfl
      · exact h.matcher
    by_cases hlow : c = .nrstHeldLow
    · subst hlow
      injection he with he
      subst he
      exact h.matcher.frame (.same rfl rfl rfl rfl rfl rfl)
    rw [exec_event hk (fun cause spd pins hc => hreset ⟨cause, spd, pins, hc⟩) hlow] at he
    rcases whenLive_next he with ⟨-, rfl⟩ | ⟨-, rfl⟩
    · exact liveStep_matcherSound c ((deliverReport_linkSide s).keysSound h)
    · exact h.matcher

theorem step_matcherSound {s t : State} (h : KeysSound s) (hstep : step s = .next t) : MatcherSound t := by
  rcases step_cases hstep with ⟨-, rfl⟩ | ⟨c, rest, -, he⟩
  · exact h.matcher
  · have taken : LinkSideFrame s { s with pending := rest } := by constructor <;> rfl
    exact exec_matcherSound (taken.keysSound h) he

/-- Settles O55, by `exec_matcherSound` for every command. -/
theorem stepKeepsTheChordsSound : Obligations.StepKeepsTheChordsSound := by
  unfold Obligations.StepKeepsTheChordsSound
  exact fun s t h hstep => (step_matcherSound h hstep).chords

/-- Settles O56, by `exec_matcherSound` for every command. -/
theorem stepKeepsRepeatAndHoldSound : Obligations.StepKeepsRepeatAndHoldSound := by
  unfold Obligations.StepKeepsRepeatAndHoldSound
  exact fun s t h hstep => (step_matcherSound h hstep).repeatHold

end Sys2Proof.Machine
end

section
/-!
Obligation O51: every step keeps the key event queue sound. What a step can do to a queue is said once (`QueueRun`): the
append rule, a REPEAT handed on, and the removal of its oldest entries. Each of these keeps a queue sound, and every
command does nothing else to it.
-/
namespace Sys2Proof.Machine

/-! ### Entries appended, recounted and removed (R84, R86, R88, R90) -/

/-- An entry at the newest end of a queue with room for it: the 16th place is a marker's, and a marker stands behind an
event (R83, R87). -/
theorem QueueSound.append {q : List QueueEntry} {e : QueueEntry} (h : QueueSound q)
    (room : q.length ≤ 14 ∨ q.length = 15 ∧ e.isLost = true)
    (apart : e.isLost = true → ∀ m ∈ q.getLast?, m.isLost = false)
    (single : ∀ k, e.repeatKey? = some k → ∀ m ∈ q, m.repeatKey? ≠ some k) (count : e.countInRange = true) :
    QueueSound (q ++ [e]) where
  capacity := by rw [List.length_append, List.length_singleton]; omega
  sixteenth full := by
    rw [List.length_append, List.length_singleton] at full
    rcases room with less | ⟨-, lost⟩
    · omega
    · simp [lost]
  markersApart := by
    refine List.isChain_append.2 ⟨h.markersApart, .singleton e, fun m hm x hx both => ?_⟩
    obtain rfl : e = x := by simpa using hx
    simp [apart both.2 m hm] at both
  oneRecord := by
    rw [List.filterMap_append]
    refine List.nodup_append.2 ⟨h.oneRecord, ?_, fun k hk l hl same => ?_⟩
    · cases hk : e.repeatKey? <;> simp [hk]
    · subst same
      obtain ⟨m, hm, hmk⟩ := List.mem_filterMap.1 hk
      exact single k (by simpa using hl) m hm hmk
  counts m hm := by
    rcases List.mem_append.1 hm with old | new
    · exact h.counts m old
    · rwa [List.mem_singleton.1 new]

/-- An entry replaced by one of its sort and key with a count in range: all that a raised count changes (R84). -/
theorem QueueSound.recount {older newer : List QueueEntry} {e e' : QueueEntry} (h : QueueSound (older ++ e :: newer))
    (lost : e'.isLost = e.isLost) (key : e'.repeatKey? = e.repeatKey?) (count : e'.countInRange = true) :
    QueueSound (older ++ e' :: newer) := by
  have length : (older ++ e' :: newer).length = (older ++ e :: newer).length := by simp
  have sorts : (older ++ e' :: newer).map QueueEntry.isLost = (older ++ e :: newer).map QueueEntry.isLost := by
    simp [lost]
  have keys : (older ++ e' :: newer).filterMap QueueEntry.repeatKey? =
      (older ++ e :: newer).filterMap QueueEntry.repeatKey? := by
    simp [List.filterMap_cons, key]
  have chain (q : List QueueEntry) : q.IsChain (fun a b => ¬ (a.isLost = true ∧ b.isLost = true)) ↔
      (q.map QueueEntry.isLost).IsChain fun a b => ¬ (a = true ∧ b = true) := by rw [List.isChain_map]
  exact
    { capacity := length ▸ h.capacity
      sixteenth := fun full => by
        rw [← List.getLast?_map, sorts, List.getLast?_map]
        exact h.sixteenth (length ▸ full)
      markersApart := by
        rw [chain, sorts, ← chain]
        exact h.markersApart
      oneRecord := keys ▸ h.oneRecord
      counts := fun m hm => by
        rcases List.mem_append.1 hm with old | new
        · exact h.counts m (List.mem_append_left _ old)
        · rcases List.mem_cons.1 new with rfl | new
          · exact count
          · exact h.counts m (List.mem_append_right _ (List.mem_cons_of_mem _ new)) }

/-- What stays of a queue once its oldest entries have been taken (R90). -/
theorem QueueSound.of_append {taken left : List QueueEntry} (h : QueueSound (taken ++ left)) : QueueSound left where
  capacity := by
    have := h.capacity
    rw [List.length_append] at this
    omega
  sixteenth full := by
    have whole := h.capacity
    rw [List.length_append] at whole
    obtain rfl : taken = [] := List.length_eq_zero_iff.1 (by omega)
    exact h.sixteenth full
  markersApart := (List.isChain_append.1 h.markersApart).2.1
  oneRecord := by
    have := h.oneRecord
    rw [List.filterMap_append] at this
    exact (List.nodup_append.1 this).2.1
  counts m hm := h.counts m (List.mem_append_right _ hm)

/-- A marker's count, raised, is 1 to 255 again. -/
theorem countInRange_lost_satInc {n : Nat} (h : n ≤ 255) : (QueueEntry.lost (satInc 255 n)).countInRange = true := by
  simp [QueueEntry.countInRange, one_le_satInc, satInc_le h]

/-- The append rule for anything but a marker: a REPEAT record only of a key that has none (R76, R86). -/
theorem QueueSound.eventAppended {q : List QueueEntry} {e : QueueEntry} (h : QueueSound q) (event : e.isLost = false)
    (single : ∀ k, e.repeatKey? = some k → ∀ m ∈ q, m.repeatKey? ≠ some k) (count : e.countInRange = true) :
    QueueSound (appendEvent e q) := by
  rcases appendEvent_cases e q with ⟨room, eq⟩ | ⟨older, n, rfl, -, eq⟩ | ⟨full, unmarked, eq⟩ | ⟨-, -, eq⟩ <;> rw [eq]
  · exact h.append (.inl room) (fun lost => by simp [event] at lost) single count
  · have raised := h.counts (.lost n) (by simp)
    simp only [QueueEntry.countInRange, Bool.and_eq_true, decide_eq_true_eq] at raised
    exact h.recount rfl rfl (countInRange_lost_satInc raised.2)
  · refine h.append (.inr ⟨full, rfl⟩) (fun _ m hm => ?_) nofun rfl
    cases m with
    | lost n => exact absurd hm (unmarked n)
    | _ => rfl
  · exact h

/-- A queue without a record to raise holds no REPEAT record of the key (R76). -/
theorem repeatKey?_ne_of_raiseRepeat_none {k : KeyIndex} {q : List QueueEntry} (h : raiseRepeat k q = none) :
    ∀ e ∈ q, e.repeatKey? ≠ some k := by
  induction q with
  | nil => exact nofun
  | cons e rest ih =>
    refine List.forall_mem_cons.2 ?_
    cases e with
    | repeated code key time count =>
      simp only [raiseRepeat] at h
      split at h
      · cases h
      next other => exact ⟨fun same => other (Option.some.inj same), ih (Option.map_eq_none_iff.1 h)⟩
    | _ => exact ⟨nofun, ih (Option.map_eq_none_iff.1 h)⟩

/-- A REPEAT handed on raises its key's record, or is the key's first one (R76, R88). -/
theorem QueueSound.repeatHanded {q : List QueueEntry} (h : QueueSound q) (code : Byte) (k : KeyIndex) (time : Time) :
    QueueSound (handRepeat code k time q) := by
  unfold handRepeat
  split
  next q' raised =>
    obtain ⟨older, newer, c, t, n, rfl, -, rfl⟩ := raiseRepeat_some raised
    have counted := h.counts (.repeated c k t n) (by simp)
    simp only [QueueEntry.countInRange, Bool.and_eq_true, decide_eq_true_eq] at counted
    refine h.recount rfl rfl ?_
    simp [QueueEntry.countInRange, one_le_satInc, satInc_le counted.2]
  next first =>
    refine h.eventAppended rfl (fun l hl => ?_) rfl
    obtain rfl : k = l := Option.some.inj hl
    exact repeatKey?_ne_of_raiseRepeat_none first

/-! ### What a queue can go through -/

/-- What a step does to the queue: any number of events handed to the append rule, of REPEATs handed on, and of removals
of its oldest entries, all of them included (R76, R86, R90, R92). -/
inductive QueueRun : List QueueEntry → List QueueEntry → Prop where
  | refl (q : List QueueEntry) : QueueRun q q
  | event {q : List QueueEntry} (e : QueueEntry) (event : e.isLost = false) (single : e.repeatKey? = none) :
      QueueRun q (appendEvent e q)
  | repeated {q : List QueueEntry} (code : Byte) (k : KeyIndex) (time : Time) : QueueRun q (handRepeat code k time q)
  | taken (taken left : List QueueEntry) : QueueRun (taken ++ left) left
  | trans {q r t : List QueueEntry} (first : QueueRun q r) (second : QueueRun r t) : QueueRun q t

theorem QueueRun.of_eq {q r : List QueueEntry} (h : r = q) : QueueRun q r := h ▸ .refl q

theorem QueueRun.emptied (q : List QueueEntry) : QueueRun q [] := by simpa using QueueRun.taken q []

/-- A sound queue stays sound through all of this (R83, R84, R87). -/
theorem QueueRun.sound {q r : List QueueEntry} (run : QueueRun q r) (h : QueueSound q) : QueueSound r := by
  induction run with
  | refl => exact h
  | event e event single =>
    refine h.eventAppended event (fun k hk => by simp [single] at hk) ?_
    cases e with
    | repeated => cases single
    | lost => cases event
    | _ => rfl
  | repeated code k time => exact h.repeatHanded code k time
  | taken => exact h.of_append
  | trans _ _ first second => exact second (first h)

/-! ### The key path (R27, R28, R36 to R43, R57 to R59, R63) -/

theorem handPresses_queue (held : List HeldPress) (s : State) :
    QueueRun s.queue (held.foldl (fun s h => handPress h.key h.time s) s).queue := by
  induction held generalizing s with
  | nil => exact .refl _
  | cons h rest ih => exact .trans (handPress_queue h.key h.time s ▸ .event _ rfl rfl) (ih _)

theorem flushHeld_queue (s : State) : QueueRun s.queue (flushHeld s).queue := handPresses_queue s.chords.held s

theorem completeChord_queue (i : SlotIndex) (c : ChordSlot) (s : State) :
    QueueRun s.queue (completeChord i c s).queue := by
  rw [completeChord_eq]
  exact .event _ rfl rfl

theorem decideChord_queue (s : State) : QueueRun s.queue (decideChord s).queue := by
  rcases decideChord_cases s with ⟨i, c, -, e⟩ | e | e <;> rw [e]
  · exact completeChord_queue i c s
  · exact .refl _
  · exact flushHeld_queue s

theorem expireWindow_queue (s : State) : QueueRun s.queue (expireWindow s).queue := by
  rcases expireWindow_outcome s with ⟨i, c, -, -, e⟩ | ⟨-, e⟩ <;> rw [e]
  · exact completeChord_queue i c s
  · exact flushHeld_queue s

theorem admitKey_queue (k : KeyIndex) (s : State) : QueueRun s.queue (admitKey k s).queue := by
  have press (u : State) : QueueRun u.queue (handPress k s.scan.panelTime u).queue :=
    handPress_queue k _ u ▸ .event _ rfl rfl
  cases member : s.isMember k
  · rw [admitKey_of_not_member member]
    split
    · exact press (takeIntoDownSet k s)
    · exact .trans (flushHeld_queue (takeIntoDownSet k s)) (press _)
  · rw [admitKey_of_member member, admitMember_eq]
    exact decideChord_queue (joinHeld k (takeIntoDownSet k s))

theorem pressAdmission_queue (k : KeyIndex) (s : State) : QueueRun s.queue (pressAdmission k s).queue := by
  unfold pressAdmission
  split
  · exact .refl _
  · split
    · exact .refl _
    · exact admitKey_queue k s

/-- Steps 2 to 4 of the release path queue a RELEASE at most (R28, R29). -/
theorem releasePath_queue (k : KeyIndex) (s : State) :
    QueueRun s.queue (endRepeatHold k (reportRelease k s)).queue := by
  rw [endRepeatHold_eq]
  unfold reportRelease
  split
  · exact .refl _
  · split
    · exact .event _ rfl rfl
    · exact .refl _

theorem releaseKey_queue (k : KeyIndex) (s : State) : QueueRun s.queue (releaseKey k s).queue := by
  rcases releaseKey_cases k s with ⟨-, e⟩ | e <;> rw [e]
  · exact releasePath_queue k (leaveDownSet k s)
  · exact .trans (flushHeld_queue (leaveDownSet k s)) (releasePath_queue k _)

theorem debounceStep_queue (k : KeyIndex) (s : State) : QueueRun s.queue (debounceStep k s).queue := by
  rcases debounceStep_cases k s with e | ⟨_, _, e⟩ | ⟨-, e⟩ | ⟨-, -, e⟩ | ⟨-, -, e⟩ <;> rw [e]
  · exact .refl _
  · exact .refl _
  · exact .refl _
  · exact pressAdmission_queue k s
  · exact releaseKey_queue k s

/-- Contact flags taken touch no event; each debounce step queues what it confirms (R5, R19). -/
theorem sampleEvent_queue (p : Position) (s : State) : QueueRun s.queue (sampleEvent p s).queue := by
  have contacts (lines : List ReturnLine) (u : State) : (lines.foldl (updateContact p) u).queue = u.queue := by
    induction lines generalizing u with
    | nil => rfl
    | cons l rest ih => exact ih (updateContact p u l)
  have steps (lines : List ReturnLine) (u : State) :
      QueueRun u.queue (lines.foldl (fun s l => debounceStep (keyAt p l) s) u).queue := by
    induction lines generalizing u with
    | nil => exact .refl _
    | cons l rest ih => exact .trans (debounceStep_queue (keyAt p l) u) (ih _)
  unfold sampleEvent
  rw [← contacts allLines s]
  exact steps allLines _

/-! ### SLOT_END, wake and sleep, the link side and the notices -/

theorem settlePending_queue (s : State) : (settlePending s).queue = s.queue := by
  rcases settlePending_cases s with ⟨-, e⟩ | ⟨q, -, ⟨-, e⟩ | ⟨-, e⟩⟩ <;> rw [e]
  · exact finishRequest_queue ..
  · exact finishRequest_queue ..

theorem endSlot_queue (s : State) : QueueRun s.queue (endSlot s).queue := by
  have sampled : QueueRun s.queue (if s.scan.config.keyScanning then sampleEvent s.scan.slotIndex s else s).queue := by
    split
    · exact sampleEvent_queue _ s
    · exact .refl _
  rw [endSlot_eq]
  split
  · rw [settlePending_queue]; exact sampled
  · exact sampled

theorem takeReading_queue (returns : Byte) (s : State) : QueueRun s.queue (takeReading returns s).queue := by
  rcases takeReading_cases returns s with ⟨-, -, e⟩ | ⟨p, -, -, -, e⟩ | ⟨-, e⟩ <;> rw [e]
  · exact endSlot_queue (presentReturns returns s)
  · exact sampleEvent_queue p { presentReturns returns s with scan.cutSlot := none }
  · exact .refl _

theorem byteArrives_queue (s : State) : (byteArrives s).queue = s.queue := by
  unfold byteArrives
  split <;> rfl

theorem completeHeld_queue {sort : Byte → Bool} {settle : Frame → State → State} {s : State}
    (side : ∀ f u, LinkSideFrame u (settle f u)) : (completeHeld sort settle s).queue = s.queue := by
  rcases completeHeld_cases sort settle s with e | ⟨f, -, -, e⟩ <;> rw [e]
  exact (side f _).queue.trans (byteArrives_queue { s with link.lineHeld := false })

theorem takeSample_queue (ch : Channel) (s : State) : (takeSample ch s).queue = s.queue := by
  unfold takeSample
  simp only
  split <;> simp

theorem expireCoalescing_queue (ch : Channel) (s : State) : (expireCoalescing ch s).queue = s.queue := by
  unfold expireCoalescing
  simp only
  split <;> simp

theorem sweepOnce_queue (s : State) : (sweepOnce s).queue = s.queue := by
  unfold sweepOnce settleSweep
  split <;> rfl

theorem checkSleepEntry_queue (s : State) : (checkSleepEntry s).queue = s.queue := by
  unfold checkSleepEntry
  split <;> rfl

/-- RESTART, taking effect, empties the queue; no other end of a transmission touches it (R83, R163). -/
theorem endTransmission_queue (f : TxFrame) (s : State) : QueueRun s.queue (endTransmission f s).queue := by
  rcases endTransmission_cases f s with ⟨-, e⟩ | ⟨-, -, -, e⟩ | ⟨-, -, e⟩ | e <;> rw [e]
  · exact .of_eq (noticeSent_linkSide f.frame.tag { s with link.tx := none }).1.queue
  · exact .emptied _
  · exact .of_eq (checkSleepEntry_queue { s with link.tx := none })
  · exact .refl _

/-- The drain splits the queue into what it takes and what it leaves (R90). -/
theorem drainQueue_append (room : Nat) (q : List QueueEntry) : (drainQueue room q).1 ++ (drainQueue room q).2 = q := by
  induction q generalizing room with
  | nil => rfl
  | cons e rest ih =>
    unfold drainQueue
    split
    · exact congrArg (e :: ·) (ih _)
    · rfl

/-- The composition of a KEYS notice drains the queue; that of any other class leaves it alone (R90, R169). -/
theorem composeClass_queue (c : NoticeClass) (s : State) : QueueRun s.queue (composeClass c s).queue := by
  cases c with
  | keys =>
    have drained := QueueRun.taken (drainQueue keysContentBytes s.queue).1 (drainQueue keysContentBytes s.queue).2
    rwa [drainQueue_append] at drained
  | ready | wake =>
    simp only [composeClass]
    split <;> exact .refl _
  | panelFault | encoder => exact .refl _

theorem composeNotice_queue (s : State) : QueueRun s.queue (composeNotice s).queue := by
  unfold composeNotice
  split
  · split
    · exact composeClass_queue _ s
    · exact .refl _
  · exact .refl _

/-! ### Every command -/

theorem liveStep_queue (c : Instr) (s : State) : QueueRun s.queue (liveStep c s).queue := by
  cases c
  case slotEnd returns => exact takeReading_queue returns s
  case noticeComposition => exact composeNotice_queue s
  case chordWindowExpiry =>
    simp only [liveStep]
    split
    · exact expireWindow_queue s
    · exact .refl _
  case repeatTimerExpiry =>
    simp only [liveStep]
    split
    next o _ =>
      split
      · exact .repeated _ o.key _
      · exact .refl _
    next => exact .refl _
  case holdTimerExpiry k =>
    simp only [liveStep]
    split
    · exact .event _ rfl rfl
    · exact .refl _
  case endOfTransmission pins =>
    simp only [liveStep]
    split
    next f _ => exact endTransmission_queue f (presentEncoderPins pins s)
    next => exact .refl _
  all_goals refine .of_eq ?_
  case gapTimerExpiry => exact (expireGap_linkSide s).queue
  case acknowledgementTimerExpiry => exact (expireAck_linkSide s).1.queue
  case ack =>
    exact completeHeld_queue (sort := fun k => k == ackKind) (settle := fun f t => reportValidFrame (settleAck f t))
      fun f u => (settleAck_linkSide f u).trans (reportValidFrame_linkSide _)
  case requestArrival =>
    exact completeHeld_queue (settle := fun f u => { settleArrival f u with link.reportOwed := true }) fun f u =>
      (settleArrival_linkSide f u).trans (by constructor <;> rfl)
  case unknownKindFrame =>
    exact completeHeld_queue (sort := fun k => !isKnownKind k)
      (settle := fun f t => reportValidFrame (settleUnknown f t)) fun f u =>
      (settleUnknown_linkSide f u).trans (reportValidFrame_linkSide _)
  case encoderSample ch q =>
    have presented : (presentPair ch q s).queue = s.queue := by cases ch <;> rfl
    simp only [liveStep]
    split
    · exact (takeSample_queue ch _).trans presented
    · exact presented
  case coalescingTimerExpiry ch pins =>
    simp only [liveStep]
    split
    · exact expireCoalescing_queue ch (presentEncoderPins pins s)
    · rfl
  case wakeSweep returns pins =>
    simp only [liveStep]
    split
    · exact sweepOnce_queue (presentEncoderPins pins (presentReturns returns s))
    · rfl
  case receiveByte b sawHigh pins =>
    simp only [liveStep]
    split
    · exact (takeByte_linkSide b _).queue.trans
        (byteArrives_queue { presentEncoderPins pins s with link.lineHeld := false })
    · rfl
  case framingError sawHigh pins =>
    simp only [liveStep]
    split
    · exact byteArrives_queue (presentEncoderPins pins s)
    · rfl
  case arbiterChoice =>
    simp only [liveStep]
    split
    · exact (chooseFrame_linkSide s).queue
    · rfl
  case slotStart | encoderPinChange | blinkTimerExpiry | testTimerExpiry =>
    simp only [liveStep, expireBlink, expireTest]
    split <;> rfl
  all_goals rfl

/-- Serving a request does to the queue what its execution does. -/
theorem serve_queue {kind : Byte} {execute : Frame → State → State} {s : State}
    (h : ∀ r u, QueueRun u.queue (execute r u).queue) : QueueRun s.queue (serve kind execute s).queue :=
  serve_keeps (Inv := fun t => QueueRun s.queue t.queue) (.refl _) fun r rest _ _ _ =>
    h r { s with dispatch.requests := rest }

/-- A request answered at execution does to the queue what its effect does (R157). -/
theorem serve_answer_queue {α : Type} {kind : Byte} {fields : Frame → State → Read α} {effect : α → State → State}
    {reply : α → State → List Byte} {s : State} (h : ∀ a u, QueueRun u.queue (effect a u).queue) :
    QueueRun s.queue (serve kind (fun r u => answer (fields r u) effect reply r u) s).queue :=
  serve_queue fun _ u => answer_keeps (Inv := fun t => QueueRun u.queue t.queue) (fun _ => .refl _) fun a _ _ => h a u

theorem whenServing_queue {f : State → State} {s t : State} (he : whenServing f s = .next t)
    (h : QueueRun s.queue (f s).queue) : QueueRun s.queue t.queue := by
  rcases whenServing_next he with ⟨-, rfl⟩ | ⟨-, rfl⟩
  · rwa [(deliverReport_linkSide _).queue]
  · exact .refl _

theorem writeChord_queue (q : ChordRequest) (s : State) : QueueRun s.queue (writeChord q s).queue := by
  rw [writeChord_eq]
  split
  · exact .refl _
  · exact flushHeld_queue s

/-- Of the requests SET_CHORD flushes the held list into the queue and FLUSH_KEYS empties it (R68, R92). -/
theorem exec_request_queue {c : Instr} {kind : Byte} {s t : State} (hk : c.requestKind = some kind)
    (he : exec c s = .next t) : QueueRun s.queue t.queue := by
  cases c
  case restart =>
    refine whenServing_queue he (serve_queue fun r u => .of_eq ?_)
    unfold executeRestart
    split <;> rfl
  case setScan =>
    refine whenServing_queue he (serve_queue fun r u => .of_eq ?_)
    unfold executeSetScan
    split <;> rfl
  case sleep =>
    refine whenServing_queue he (serve_queue fun r u => .of_eq ?_)
    unfold executeSleep
    split
    · rfl
    · split <;> rfl
  case setChord => exact whenServing_queue he (serve_answer_queue writeChord_queue)
  case flushKeys => exact whenServing_queue he (serve_answer_queue fun _ u => .emptied u.queue)
  case setEncoders pins =>
    have he : execSetEncoders pins s = .next t := he
    unfold execSetEncoders at he
    exact whenServing_queue he (serve_answer_queue (s := presentEncoderPins pins s) fun q u =>
      .of_eq (State.setChannel_queue u q.channel _))
  case readEncoders | getLinkStats =>
    refine whenServing_queue he (serve_answer_queue fun clear u => ?_)
    cases clear <;> exact .refl _
  case setGlyphs =>
    refine whenServing_queue he (serve_answer_queue fun (bank, start, patterns) u => ?_)
    cases bank <;> exact .refl _
  case identify | getStatus | setKeymap | getKeymap | readKeys | getChord | setTiming | writeDisplay | setDisplay |
      displayTest | readDisplay | setNotices =>
    exact whenServing_queue he (serve_answer_queue fun _ u => .refl u.queue)
  all_goals cases hk

theorem exec_queue {c : Instr} {s t : State} (he : exec c s = .next t) : QueueRun s.queue t.queue := by
  cases hk : c.requestKind with
  | some kind => exact exec_request_queue hk he
  | none =>
    by_cases hreset : ∃ cause spd pins, c = .hardwareReset cause spd pins
    · obtain ⟨cause, spd, pins, rfl⟩ := hreset
      simp only [exec, execHardwareReset] at he
      split at he <;> injection he with he <;> subst he
      · exact .emptied _
      · exact .refl _
    by_cases hlow : c = .nrstHeldLow
    · subst hlow
      injection he with he
      subst he
      exact .refl _
    rw [exec_event hk (fun cause spd pins hc => hreset ⟨cause, spd, pins, hc⟩) hlow] at he
    rcases whenLive_next he with ⟨-, rfl⟩ | ⟨-, rfl⟩
    · exact (deliverReport_linkSide s).queue ▸ liveStep_queue c (deliverReport s)
    · exact .refl _

/-- Settles O51: every command takes the queue through a `QueueRun`, and such a run keeps it sound. -/
theorem stepKeepsTheQueueSound : Obligations.StepKeepsTheQueueSound := by
  unfold Obligations.StepKeepsTheQueueSound
  intro s t
  exact step_keeps (Inv := fun u => QueueSound u.queue) (fun _ _ h => h) fun _ _ _ h he => (exec_queue he).sound h

end Sys2Proof.Machine
end

section
/-!
Obligation O16: the expiries of the repeat timer and of a key's hold timer (R74, R76, R78).
-/
namespace Sys2Proof.Machine

/-- Merging raises the oldest REPEAT record of the key where it stands (R76). -/
theorem raiseRepeat_append {k : KeyIndex} {older : List QueueEntry} (newer : List QueueEntry) (code : Byte) (time : Time)
    (count : Nat) (h : ∀ e ∈ older, e.repeatKey? ≠ some k) :
    raiseRepeat k (older ++ .repeated code k time count :: newer) =
      some (older ++ .repeated code k time (satInc 255 count) :: newer) := by
  induction older with
  | nil => simp [raiseRepeat]
  | cons e rest ih =>
    obtain ⟨other, others⟩ := List.forall_mem_cons.1 h
    cases e with
    | repeated c key t n =>
      have hk : key ≠ k := fun same => other (congrArg some same)
      simp [raiseRepeat, hk, ih others]
    | _ => simp [raiseRepeat, ih others]

/-- A REPEAT of a key that has a record in the queue raises its count (R76). -/
theorem handRepeat_of_record {k : KeyIndex} {older : List QueueEntry} (newer : List QueueEntry) (code code' : Byte)
    (time time' : Time) (count : Nat) (h : ∀ e ∈ older, e.repeatKey? ≠ some k) :
    handRepeat code' k time' (older ++ .repeated code k time count :: newer) =
      older ++ .repeated code k time (satInc 255 count) :: newer := by
  rw [handRepeat, raiseRepeat_append newer code time count h]

/-- A REPEAT of a key without a record goes through the append rule (R76). -/
theorem handRepeat_of_no_record {k : KeyIndex} {q : List QueueEntry} (code : Byte) (time : Time)
    (h : ∀ e ∈ q, e.repeatKey? ≠ some k) : handRepeat code k time q = appendEvent (.repeated code k time 1) q := by
  rw [handRepeat, raiseRepeat_none h]

/-- The repeat timer's expiry around what the queue has become (R74). -/
theorem expireRepeat_eq {o : RepeatOwner} {s : State} {q : List QueueEntry}
    (h : handRepeat (s.mapEntry o.key).code o.key s.scan.panelTime s.queue = q) :
    expireRepeat o s = { s with
      queue := q
      repeatHold.owner := some { key := o.key, phase := .period }
      repeatHold.timer := some (s.scan.panelTime + BitVec.ofNat 16 s.repeatHold.repeatPeriod) } := by
  subst h
  rfl

theorem exec_repeatTimerExpiry_of_owner {o : RepeatOwner} {s : State} (hl : s.live)
    (owner : s.repeatHold.owner = some o) :
    exec .repeatTimerExpiry s =
      .next (if timerDue s.repeatHold.timer s.scan.panelTime = true then expireRepeat o s else s) := by
  rw [exec_event (c := .repeatTimerExpiry) rfl nofun nofun, whenLive_of_live hl]
  simp only [liveStep, owner]
  rfl

theorem exec_repeatTimerExpiry_of_no_owner {s : State} (hl : s.live) (owner : s.repeatHold.owner = none) :
    exec .repeatTimerExpiry s = .next s := by
  rw [exec_event (c := .repeatTimerExpiry) rfl nofun nofun, whenLive_of_live hl]
  simp only [liveStep, owner]

theorem exec_holdTimerExpiry {k : KeyIndex} {s : State} (hl : s.live) :
    exec (.holdTimerExpiry k) s =
      .next (if timerDue s.repeatHold.holdTimers[k] s.scan.panelTime = true then expireHold k s else s) :=
  whenLive_of_live (f := fun s => if timerDue s.repeatHold.holdTimers[k] s.now then expireHold k s else s) hl

/-- Settles O16: a REPEAT merges into its key's record (`raiseRepeat_append`) or goes through the append rule
(`raiseRepeat_none`); a HOLD always goes through the append rule. -/
theorem repeatAndHoldExpiriesHandOnTheirEvents : Obligations.RepeatAndHoldExpiriesHandOnTheirEvents := by
  unfold Obligations.RepeatAndHoldExpiriesHandOnTheirEvents
  refine ⟨fun o s hl owner due => ⟨fun older newer code time count hq others => ?_, fun first => ?_⟩,
    fun s hl idle => ?_, fun k s hl due => ?_, fun k s hl early => ?_⟩
  · rw [exec_repeatTimerExpiry_of_owner hl owner, if_pos due,
      expireRepeat_eq (hq ▸ handRepeat_of_record newer code _ time _ count others)]
    rfl
  · rw [exec_repeatTimerExpiry_of_owner hl owner, if_pos due, expireRepeat_eq (handRepeat_of_no_record _ _ first)]
  · cases owner : s.repeatHold.owner with
    | none => exact exec_repeatTimerExpiry_of_no_owner hl owner
    | some o =>
      have early : timerDue s.repeatHold.timer s.scan.panelTime = false := idle.resolve_left (by simp [owner])
      rw [exec_repeatTimerExpiry_of_owner hl owner, early]
      rfl
  · rw [exec_holdTimerExpiry hl, if_pos due]
    rfl
  · rw [exec_holdTimerExpiry hl, early]
    rfl

end Sys2Proof.Machine
end

section
/-!
Obligation O43: SET_TIMING (R71, R81, R82).
-/
namespace Sys2Proof.Machine

/-- The four fields of SET_TIMING in their ranges, in steps (R81). -/
def TimingFieldsInRange (delay period hold window : Byte) : Prop :=
  10 ≤ delay.toNat ∧ delay.toNat ≤ 200 ∧ 2 ≤ period.toNat ∧ period.toNat ≤ 50 ∧ 2 ≤ hold.toNat ∧ hold.toNat ≤ 50 ∧
    1 ≤ window.toNat ∧ window.toNat ≤ 25

theorem readTiming_of_inRange {delay period hold window : Byte} (h : TimingFieldsInRange delay period hold window) :
    readTiming [delay, period, hold, window] = .ok
      { repeatDelay := delay.toNat * 10, repeatPeriod := period.toNat * 10, holdTime := hold.toNat * 100,
        chordWindow := window.toNat * 10 } := by
  obtain ⟨d1, d2, p1, p2, h1, h2, w1, w2⟩ := h
  simp [readTiming, readRange_eq ⟨d1, d2⟩, readRange_eq ⟨p1, p2⟩, readRange_eq ⟨h1, h2⟩, readRange_eq ⟨w1, w2⟩, orRange]

/-- A value that is missing is refused with RANGE alone (R176). -/
theorem orRange_error {α : Type} {v : Option α} {code : ResultCode} (h : orRange v = .error code) : code = .range := by
  cases v with
  | none => injection h with h; exact h.symm
  | some a => cases h

/-- A field out of its range leaves nothing to read: values read are in range (R81). -/
theorem readTiming_of_not_inRange {delay period hold window : Byte}
    (h : ¬ TimingFieldsInRange delay period hold window) :
    readTiming [delay, period, hold, window] = .error .range := by
  cases e : readTiming [delay, period, hold, window] with
  | ok q =>
    have fields := orRange_ok e
    simp only [Option.bind_eq_bind, Option.bind_eq_some_iff, Option.pure_def, Option.some.injEq] at fields
    obtain ⟨d, hd, p, hp, t, ht, w, hw, -⟩ := fields
    obtain ⟨rfl, d1, d2⟩ := readRange_some hd
    obtain ⟨rfl, p1, p2⟩ := readRange_some hp
    obtain ⟨rfl, h1, h2⟩ := readRange_some ht
    obtain ⟨rfl, w1, w2⟩ := readRange_some hw
    exact absurd ⟨d1, d2, p1, p2, h1, h2, w1, w2⟩ h
  | error code => exact congrArg Except.error (orRange_error e)

theorem readTiming_of_length_ne {p : List Byte} (h : p.length ≠ 4) : readTiming p = .error .badLength := by
  unfold readTiming
  split
  · exact absurd rfl h
  · rfl

theorem exec_setTiming_refused {r : Frame} {rest : List Frame} {s : State} (hs : s.serves 0x0A#8 r rest)
    {code : ResultCode} (h : readTiming r.payload = .error code) :
    exec .setTiming s = .next (s.replied r rest [code.byte]) :=
  whenServing_answer_refused (fields := fun r _ => readTiming r.payload) hs h

/-- Settles O43: the payload is read (`readTiming_of_inRange`) or refused with the code of the check that fails. -/
theorem setTimingSetsFourSettings : Obligations.SetTimingSetsFourSettings := by
  unfold Obligations.SetTimingSetsFourSettings
  intro r rest s hs
  refine ⟨fun delay period hold window hp => ⟨fun inRange => ?_, fun outOfRange => ?_⟩, fun length => ?_⟩
  · exact whenServing_answer_accepted (fields := fun r _ => readTiming r.payload) (effect := setTiming) hs
      (hp ▸ readTiming_of_inRange inRange) rfl rfl
  · exact exec_setTiming_refused hs (hp ▸ readTiming_of_not_inRange outOfRange)
  · exact exec_setTiming_refused hs (readTiming_of_length_ne length)

end Sys2Proof.Machine
end

section
/-!
Obligations O17 and O18: the append rule row by row, and the drain of the queue into a KEYS notice (R86, R90).
-/
namespace Sys2Proof.Machine

/-! ### The rows of the append rule (R86) -/

theorem appendEvent_of_room {q : List QueueEntry} (e : QueueEntry) (h : q.length ≤ 14) : appendEvent e q = q ++ [e] :=
  if_pos (by rw [queueCapacity]; omega)

/-- With the free places used up, a newest marker takes the event into its count. -/
theorem appendEvent_of_marker {older : List QueueEntry} {n : Nat} (e : QueueEntry)
    (h : 15 ≤ (older ++ [QueueEntry.lost n]).length) :
    appendEvent e (older ++ [.lost n]) = older ++ [.lost (satInc 255 n)] := by
  unfold appendEvent
  rw [if_neg (by rw [queueCapacity]; omega)]
  simp

/-- Behind a 15th entry that is an event, the discarded event opens a marker. -/
theorem appendEvent_of_event {older : List QueueEntry} {newest : QueueEntry} (e : QueueEntry)
    (event : newest.isLost = false) (h : (older ++ [newest]).length = 15) :
    appendEvent e (older ++ [newest]) = older ++ [newest] ++ [.lost 1] := by
  unfold appendEvent
  rw [if_neg (by rw [h, queueCapacity]; omega), if_pos (by rw [h, queueCapacity]; omega), List.getLast?_concat]
  cases newest with
  | lost n => cases event
  | _ => rfl

/-- Settles O17, one lemma for each group of rows. -/
theorem appendRuleRowByRow : Obligations.AppendRuleRowByRow := by
  unfold Obligations.AppendRuleRowByRow
  refine fun e q => ⟨appendEvent_of_room e, fun older n hq full => ?_, fun older newest hq event full => ?_⟩
  · subst hq
    exact appendEvent_of_marker e (by omega)
  · subst hq
    exact appendEvent_of_event e event full

/-! ### The drain (R90) -/

theorem bytes_length_cons (e : QueueEntry) (q : List QueueEntry) :
    ((e :: q).flatMap QueueEntry.bytes).length = e.size + (q.flatMap QueueEntry.bytes).length := by
  rw [List.flatMap_cons, List.length_append, queueEntry_bytes_length]

theorem drainQueue_of_fits {room : Nat} {e : QueueEntry} (rest : List QueueEntry) (h : e.size ≤ room) :
    drainQueue room (e :: rest) =
      (e :: (drainQueue (room - e.size) rest).1, (drainQueue (room - e.size) rest).2) := if_pos h

theorem drainQueue_of_not_fits {room : Nat} {e : QueueEntry} (rest : List QueueEntry) (h : ¬ e.size ≤ room) :
    drainQueue room (e :: rest) = ([], e :: rest) := if_neg h

/-- What is taken fits in the room. -/
theorem drainQueue_taken_fits (room : Nat) (q : List QueueEntry) :
    ((drainQueue room q).1.flatMap QueueEntry.bytes).length ≤ room := by
  induction q generalizing room with
  | nil => exact Nat.zero_le room
  | cons e rest ih =>
    by_cases fits : e.size ≤ room
    · have := ih (room - e.size)
      rw [drainQueue_of_fits rest fits, bytes_length_cons]
      omega
    · rw [drainQueue_of_not_fits rest fits]
      exact Nat.zero_le room

/-- The run stops only at an entry that would carry it past the room. -/
theorem drainQueue_left_exceeds {room : Nat} {q : List QueueEntry} {e : QueueEntry} {rest : List QueueEntry}
    (h : (drainQueue room q).2 = e :: rest) :
    room < (((drainQueue room q).1 ++ [e]).flatMap QueueEntry.bytes).length := by
  induction q generalizing room with
  | nil => cases h
  | cons first others ih =>
    by_cases fits : first.size ≤ room
    · rw [drainQueue_of_fits others fits] at h ⊢
      have := ih h
      rw [List.cons_append, bytes_length_cons]
      omega
    · rw [drainQueue_of_not_fits others fits] at h ⊢
      injection h with same
      subst same
      rw [List.nil_append, bytes_length_cons]
      omega

theorem queueEntry_size_le (e : QueueEntry) : e.size ≤ 6 := by
  cases e <;> simp [QueueEntry.size]

/-- Room for the longest entry is room for the first one, whatever it is. -/
theorem drainQueue_takes_some {room : Nat} {q : List QueueEntry} (h : 6 ≤ room) (holds : q ≠ []) :
    (drainQueue room q).1 ≠ [] := by
  cases q with
  | nil => exact absurd rfl holds
  | cons e rest =>
    rw [drainQueue_of_fits rest ((queueEntry_size_le e).trans h)]
    exact List.cons_ne_nil _ _

theorem two_le_queueEntry_size (e : QueueEntry) : 2 ≤ e.size := by
  cases e <;> simp [QueueEntry.size]

theorem five_le_queueEntry_size {e : QueueEntry} (event : e.isLost = false) : 5 ≤ e.size := by
  cases e with
  | lost n => cases event
  | _ => simp [QueueEntry.size]

/-- Markers apart, two neighbours take at least 7 bytes together: 3½ bytes an entry, but for a marker at the front,
which no event before it has made up for (R87). -/
theorem length_le_of_markersApart {e : QueueEntry} {q : List QueueEntry}
    (h : (e :: q).IsChain fun a b => ¬ (a.isLost = true ∧ b.isLost = true)) :
    7 * (e :: q).length ≤ 2 * ((e :: q).flatMap QueueEntry.bytes).length + 3 ∧
      (e.isLost = false → 7 * (e :: q).length ≤ 2 * ((e :: q).flatMap QueueEntry.bytes).length) := by
  induction q generalizing e with
  | nil =>
    have := two_le_queueEntry_size e
    rw [bytes_length_cons, List.length_singleton]
    exact ⟨by omega, fun event => by have := five_le_queueEntry_size event; omega⟩
  | cons next rest ih =>
    obtain ⟨apart, others⟩ := List.isChain_cons_cons.1 h
    obtain ⟨behind, behindEvent⟩ := ih others
    rw [bytes_length_cons, List.length_cons]
    cases marker : e.isLost with
    | true =>
      have := two_le_queueEntry_size e
      have := behindEvent (by simpa [marker] using apart)
      exact ⟨by omega, nofun⟩
    | false =>
      have := five_le_queueEntry_size marker
      exact ⟨by omega, fun _ => by omega⟩

/-- 37 bytes hold at most 11 entries of a sound queue: six markers and five events between them (R87, R90). -/
theorem QueueSound.drain_length_le {q : List QueueEntry} (h : QueueSound q) : (drainQueue 37 q).1.length ≤ 11 := by
  have fits := drainQueue_taken_fits 37 q
  have apart := h.markersApart
  rw [← drainQueue_append 37 q] at apart
  replace apart := (List.isChain_append.1 apart).1
  cases taken : (drainQueue 37 q).1 with
  | nil => exact Nat.zero_le 11
  | cons e rest =>
    rw [taken] at fits apart
    have := (length_le_of_markersApart apart).1
    omega

/-- Settles O18, from what the drain takes and where it stops. -/
theorem drainTakesTheLongestRunWithin37Bytes : Obligations.DrainTakesTheLongestRunWithin37Bytes :=
  fun q => ⟨drainQueue_append 37 q, drainQueue_taken_fits 37 q, fun _ _ => drainQueue_left_exceeds,
    drainQueue_takes_some (by decide), QueueSound.drain_length_le⟩

end Sys2Proof.Machine
end

section
/-!
Obligation O44: FLUSH_KEYS (R92).
-/
namespace Sys2Proof.Machine

/-- Settles O44: the queue's length is read before the effect, which leaves the dispatcher and the link alone. -/
theorem flushKeysEmptiesTheQueueAndCounts : Obligations.FlushKeysEmptiesTheQueueAndCounts := by
  unfold Obligations.FlushKeysEmptiesTheQueueAndCounts
  refine fun r rest s hs => ⟨fun empty => ?_, fun payload => ?_⟩
  · exact whenServing_answer_accepted (fields := fun r _ => readNone r.payload)
      (effect := fun _ s => { s with queue := [] }) (a := ()) hs (by rw [empty]; rfl) rfl rfl
  · exact whenServing_answer_refused (fields := fun r _ => readNone r.payload) hs (readNone_of_ne_nil payload)

end Sys2Proof.Machine
end

section
/-!
Obligation O33: NOTICE_COMPOSITION (R165 to R169, with R90 and R103).
-/
namespace Sys2Proof.Machine

/-! ### The class that is due (R165, R169) -/

theorem mayCompose_iff {s : State} : s.mayCompose = true ↔
    s.notices.state = .running ∧ s.notices.outstanding.length < s.notices.window ∧ s.power.state ≠ .asleep := by
  simp [State.mayCompose, and_assoc]

theorem FaultRecord.pending_iff {f : FaultRecord} :
    f.pending = true ↔ f.ghostCount ≠ 0 ∨ f.rolloverCount ≠ 0 ∨ f.e0Count ≠ 0 ∨ f.e1Count ≠ 0 := by
  simp [FaultRecord.pending, or_assoc]

/-- A class is offered for composition: pending and enabled. -/
def State.offers (s : State) (c : NoticeClass) : Prop :=
  s.classPending c = true ∧ s.notices.mask.enables c = true

theorem State.offers_ready {s : State} : s.offers .ready ↔ s.notices.ready ≠ none := by
  simp [State.offers, State.classPending, ClassMask.enables, Option.isSome_iff_ne_none]

theorem State.offers_wake {s : State} : s.offers .wake ↔ s.notices.wake ≠ none := by
  simp [State.offers, State.classPending, ClassMask.enables, Option.isSome_iff_ne_none]

theorem State.offers_panelFault {s : State} : s.offers .panelFault ↔
    (s.notices.fault.ghostCount ≠ 0 ∨ s.notices.fault.rolloverCount ≠ 0 ∨ s.notices.fault.e0Count ≠ 0 ∨
      s.notices.fault.e1Count ≠ 0) ∧ s.notices.mask.panelFault = true :=
  and_congr_left' FaultRecord.pending_iff

theorem State.offers_keys {s : State} : s.offers .keys ↔ s.queue ≠ [] ∧ s.notices.mask.keys = true := by
  simp [State.offers, State.classPending, ClassMask.enables]

theorem State.offers_encoder {s : State} : s.offers .encoder ↔
    (s.encoders.e0.eligible = true ∨ s.encoders.e1.eligible = true) ∧ s.notices.mask.encoder = true :=
  and_congr_left' (Bool.or_eq_true_iff ..)

/-- A class offered with none of higher priority is due. -/
theorem dueClass_of_first {s : State} {higher lower : List NoticeClass} {c : NoticeClass}
    (order : classOrder = higher ++ c :: lower) (above : ∀ d ∈ higher, ¬ s.offers d) (offered : s.offers c) :
    s.dueClass = some c := by
  rw [State.dueClass, order]
  refine List.find?_eq_some_iff_append.2 ⟨by simpa [State.offers] using offered, higher, lower, rfl, fun d hd => ?_⟩
  simpa [State.offers, or_iff_not_imp_left] using above d hd

theorem dueClass_eq_none {s : State} (h : ∀ d, ¬ s.offers d) : s.dueClass = none :=
  List.find?_eq_none.2 fun d _ => by simpa [State.offers] using h d

/-! ### The composition of the class that is due (R169) -/

theorem exec_noticeComposition {s : State} (hl : s.live) : exec .noticeComposition s = .next (composeNotice s) :=
  whenLive_of_live hl

theorem exec_noticeComposition_of_first {s : State} (hl : s.live) (may : s.mayCompose = true)
    {higher lower : List NoticeClass} {c : NoticeClass} (order : classOrder = higher ++ c :: lower)
    (above : ∀ d ∈ higher, ¬ s.offers d) (offered : s.offers c) :
    exec .noticeComposition s = .next (composeClass c s) := by
  rw [exec_noticeComposition hl, composeNotice, dueClass_of_first order above offered]
  simp only [may, if_true]

theorem composeNotice_of_not_may {s : State} (h : s.mayCompose ≠ true) : composeNotice s = s := by
  unfold composeNotice
  split
  · exact if_neg h
  · rfl

theorem composeNotice_of_none_offered {s : State} (h : ∀ c, ¬ s.offers c) : composeNotice s = s := by
  rw [composeNotice, dueClass_eq_none h]

theorem composeClass_ready {s : State} {cause : ReadyCause} (h : s.notices.ready = some cause) :
    composeClass .ready s = appendNotice (.ready cause) { s with notices.ready := none } := by
  simp only [composeClass, h]

theorem composeClass_wake {s : State} {cause : WakeCause} (h : s.notices.wake = some cause) :
    composeClass .wake s = appendNotice (.wake cause) { s with notices.wake := none } := by
  simp only [composeClass, h]

/-- The reports of the eligible channels, one channel after the other (R103). -/
theorem dueReports_eq (s : State) : s.dueReports =
    (if s.encoders.e0.eligible = true then [channelReport .e0 s.encoders.e0] else []) ++
      (if s.encoders.e1.eligible = true then [channelReport .e1 s.encoders.e1] else []) := by
  cases h0 : s.encoders.e0.eligible <;> cases h1 : s.encoders.e1.eligible <;>
    simp [State.dueReports, State.channel, h0, h1]

/-- Settles O33: each clause names the classes above its own as not offered, and its own as offered
(`exec_noticeComposition_of_first`). -/
theorem compositionTakesTheHighestEnabledPendingClass :
    Obligations.CompositionTakesTheHighestEnabledPendingClass := by
  unfold Obligations.CompositionTakesTheHighestEnabledPendingClass
  intro s hl may composed noFlag f faults keys due encoders reported report
  have noReady : s.notices.ready = none → ¬ s.offers .ready := fun h => by simp [State.offers_ready, h]
  have noWake : s.notices.wake = none → ¬ s.offers .wake := fun h => by simp [State.offers_wake, h]
  have noFaults : ¬ faults → ¬ s.offers .panelFault := mt State.offers_panelFault.1
  have noKeys : ¬ keys → ¬ s.offers .keys := mt State.offers_keys.1
  have noEncoders : ¬ encoders → ¬ s.offers .encoder := mt State.offers_encoder.1
  refine ⟨fun hm c ready => ?_, fun hm ready c wake => ?_, fun hm flag hf => ?_, fun hm flag hf hk => ?_,
    fun hm flag hf hk he => ?_, fun idle => ?_⟩
  · rw [exec_noticeComposition_of_first hl (mayCompose_iff.2 hm) (higher := []) rfl nofun
      (State.offers_ready.2 (by simp [ready])), composeClass_ready ready]
    rfl
  · rw [exec_noticeComposition_of_first hl (mayCompose_iff.2 hm) (higher := [.ready]) rfl
      (by simpa using noReady ready) (State.offers_wake.2 (by simp [wake])), composeClass_wake wake]
    rfl
  · exact exec_noticeComposition_of_first hl (mayCompose_iff.2 hm) (higher := [.ready, .wake]) rfl
      (by simpa using ⟨noReady flag.1, noWake flag.2⟩) (State.offers_panelFault.2 hf)
  · exact exec_noticeComposition_of_first hl (mayCompose_iff.2 hm) (higher := [.ready, .wake, .panelFault]) rfl
      (by simpa using ⟨noReady flag.1, noWake flag.2, noFaults hf⟩) (State.offers_keys.2 hk)
  · rw [exec_noticeComposition_of_first hl (mayCompose_iff.2 hm) (higher := [.ready, .wake, .panelFault, .keys]) rfl
      (by simpa using ⟨noReady flag.1, noWake flag.2, noFaults hf, noKeys hk⟩) (State.offers_encoder.2 he),
      composeClass, dueReports_eq]
    rfl
  · rw [exec_noticeComposition hl]
    rcases idle with not | ⟨flag, hf, hk, he⟩
    · rw [composeNotice_of_not_may (mt mayCompose_iff.1 not)]
    · refine congrArg _ (composeNotice_of_none_offered fun c => ?_)
      cases c with
      | ready => exact noReady flag.1
      | wake => exact noWake flag.2
      | panelFault => exact noFaults hf
      | keys => exact noKeys hk
      | encoder => exact noEncoders he

end Sys2Proof.Machine
end

section
/-!
Obligation O57: every step keeps the encoder channels, the fault record and the link interface in range. An operation
touches one of the three, or none, but for an encoder's sample and the resets; so each is said to keep all three
ranges by what it does to the block it touches.
-/
namespace Sys2Proof.Machine

/-- The encoder channels, the fault record and the link interface, each sound before, are each sound after. -/
structure RangesKept (s t : State) : Prop where
  encoders : EncodersSound s → EncodersSound t
  fault    : FaultSound s.notices.fault → FaultSound t.notices.fault
  link     : LinkSound s.link → LinkSound t.link

theorem RangesKept.refl (s : State) : RangesKept s s := ⟨id, id, id⟩

theorem RangesKept.trans {s t u : State} (h : RangesKept s t) (g : RangesKept t u) : RangesKept s u :=
  ⟨g.encoders ∘ h.encoders, g.fault ∘ h.fault, g.link ∘ h.link⟩

theorem EncodersSound.congr {s t : State} (h : EncodersSound s) (e : t.encoders = s.encoders) : EncodersSound t :=
  ⟨e ▸ h.e0, e ▸ h.e1⟩

/-- An operation that touches the encoder unit alone. -/
theorem RangesKept.of_encoders {s t : State} (encoders : EncodersSound s → EncodersSound t)
    (fault : t.notices.fault = s.notices.fault) (link : t.link = s.link) : RangesKept s t :=
  ⟨encoders, fun h => fault ▸ h, fun h => link ▸ h⟩

/-- An operation that touches the fault record alone. -/
theorem RangesKept.of_fault {s t : State} (encoders : t.encoders = s.encoders)
    (fault : FaultSound s.notices.fault → FaultSound t.notices.fault) (link : t.link = s.link) : RangesKept s t :=
  ⟨fun h => h.congr encoders, fault, fun h => link ▸ h⟩

/-- An operation that touches the link interface alone. -/
theorem RangesKept.of_link {s t : State} (encoders : t.encoders = s.encoders)
    (fault : t.notices.fault = s.notices.fault) (link : LinkSound s.link → LinkSound t.link) : RangesKept s t :=
  ⟨fun h => h.congr encoders, fun h => fault ▸ h, link⟩

/-- An operation that touches none of the three. -/
theorem RangesKept.of_eq {s t : State} (encoders : t.encoders = s.encoders)
    (fault : t.notices.fault = s.notices.fault) (link : t.link = s.link) : RangesKept s t :=
  .of_link encoders fault fun h => link ▸ h

/-! ### The encoder unit (R95 to R108) -/

theorem EncodersSound.channel {s : State} (h : EncodersSound s) : ∀ c, (s.channel c).Sound
  | .e0 => h.e0
  | .e1 => h.e1

theorem setChannel_encodersSound {s : State} {c : Channel} {e : EncoderChannel} (h : EncodersSound s) (he : e.Sound) :
    EncodersSound (s.setChannel c e) := by
  cases c with
  | e0 => exact ⟨he, h.e1⟩
  | e1 => exact ⟨h.e0, he⟩

/-- An accumulator of 0 is short of a detent (R99). -/
theorem EncoderChannel.Sound.zero_between {e : EncoderChannel} (h : e.Sound) :
    -(e.stepsPerDetent : Int) < 0 ∧ (0 : Int) < e.stepsPerDetent := by
  have := h.steps
  omega

theorem oweSample_sound {p : PowerState} {e : EncoderChannel} (h : e.Sound) : (oweSample p e).Sound :=
  { h with
    due := fun owed => by
      rcases Bool.or_eq_true_iff.1 owed with before | now
      · exact h.due before
      · exact (Bool.and_eq_true_iff.1 now).1 }

theorem resyncChannel_sound {pins : QuadPair} {e : EncoderChannel} (h : e.Sound) : (resyncChannel pins e).Sound := by
  unfold resyncChannel
  split
  · exact { h with acc := h.zero_between, due := nofun }
  · exact h

theorem clearReport_sound {e : EncoderChannel} (h : e.Sound) : (clearReport e).Sound :=
  { h with delta := (by decide : (-127 : Int) ≤ 0 ∧ (0 : Int) ≤ 127) }

theorem reportChannel_sound {now : Time} {e : EncoderChannel} (h : e.Sound) : (reportChannel now e).Sound := by
  unfold reportChannel
  split
  · exact { clearReport_sound h with }
  · exact h

/-- A forward detent leaves the delta at +127 or below it (R101). -/
theorem forwardDetent_sound {e : EncoderChannel} (h : e.Sound) : (forwardDetent e).Sound := by
  unfold forwardDetent
  split
  · exact { h with }
  next limit =>
    have := h.delta
    exact { h with delta := by dsimp only; omega }

/-- A backward detent leaves the delta at -127 or above it (R101). -/
theorem backwardDetent_sound {e : EncoderChannel} (h : e.Sound) : (backwardDetent e).Sound := by
  unfold backwardDetent
  split
  · exact { h with }
  next limit =>
    have := h.delta
    exact { h with delta := by dsimp only; omega }

/-- An accumulator that has reached a detent returns to 0, and one that has not is short of it (R99). -/
theorem countSteps_sound {acc : Int} {e : EncoderChannel} (h : e.Sound) (low : -(e.stepsPerDetent : Int) ≤ acc)
    (high : acc ≤ e.stepsPerDetent) : (countSteps acc e).Sound := by
  have empty : { e with acc := 0 }.Sound := { h with acc := h.zero_between }
  unfold countSteps
  split
  · exact forwardDetent_sound empty
  · split
    · exact backwardDetent_sound empty
    · exact { h with acc := by dsimp only; omega }

theorem sampleChannel_sound {new : QuadPair} {e : EncoderChannel} (h : e.Sound) : (sampleChannel new e).Sound := by
  have taken : { e with quad := new }.Sound := { h with }
  have := h.acc
  unfold sampleChannel
  split
  · exact h
  · exact countSteps_sound taken (by dsimp only; omega) (by dsimp only; omega)
  · exact countSteps_sound taken (by dsimp only; omega) (by dsimp only; omega)
  · exact taken

theorem countEncoderFault_sound {c : Channel} {f : FaultRecord} (h : FaultSound f) :
    FaultSound (countEncoderFault c f) := by
  cases c with
  | e0 => exact { h with e0 := satInc_le h.e0 }
  | e1 => exact { h with e1 := satInc_le h.e1 }

/-- A sample touches its channel, and with a double change the channel's fault count (R98). -/
theorem takeSample_ranges (c : Channel) (s : State) : RangesKept s (takeSample c s) := by
  have sampled : RangesKept s
      (s.setChannel c { sampleChannel (s.pinsOf c) (s.channel c) with sampleDue := false }) :=
    .of_encoders (fun h => setChannel_encodersSound h { sampleChannel_sound (h.channel c) with due := nofun })
      (by simp) (by simp)
  unfold takeSample
  simp only
  split
  · refine sampled.trans (.of_fault rfl (fun h => ?_) rfl)
    rw [State.setChannel_notices] at h
    exact countEncoderFault_sound h
  · exact sampled

theorem wakePart_ranges (cause : WakeCause) (s : State) : RangesKept s (wakePart cause s) :=
  .of_encoders (fun h => ⟨resyncChannel_sound h.e0, resyncChannel_sound h.e1⟩) rfl rfl

theorem tick_ranges (s : State) : RangesKept s (tick s) :=
  .of_encoders (fun h => ⟨oweSample_sound h.e0, oweSample_sound h.e1⟩) rfl rfl

theorem expireCoalescing_ranges (c : Channel) (s : State) : RangesKept s (expireCoalescing c s) := by
  have stopped : RangesKept s (s.setChannel c { s.channel c with timer := none }) :=
    .of_encoders (fun h => setChannel_encodersSound h { h.channel c with }) (by simp) (by simp)
  unfold expireCoalescing
  simp only
  split
  · exact stopped.trans (wakePart_ranges .encoder _)
  · exact stopped

/-- A SET_ENCODERS whose settings are in range keeps its channel in range (R95, R107). -/
theorem configureChannel_sound {pins : QuadPair} {q : EncoderRequest} {e : EncoderChannel} (h : e.Sound)
    (steps : q.stepsPerDetent = 1 ∨ q.stepsPerDetent = 2 ∨ q.stepsPerDetent = 4)
    (interval : 10 ≤ q.interval ∧ q.interval ≤ 500 ∧ q.interval % 10 = 0) : (configureChannel pins q e).Sound := by
  have zero : -(q.stepsPerDetent : Int) < 0 ∧ (0 : Int) < q.stepsPerDetent := by omega
  unfold configureChannel
  simp only
  split
  · exact ⟨steps, interval, zero, h.delta, nofun⟩
  · refine ⟨steps, interval, ?_, h.delta, fun due => (Bool.and_eq_true_iff.1 due).1⟩
    dsimp only
    split
    next same => rw [same]; exact h.acc
    next => exact zero

theorem readSteps_some {b : Byte} {n : Nat} (h : readSteps b = some n) :
    n = b.toNat ∧ (b.toNat = 1 ∨ b.toNat = 2 ∨ b.toNat = 4) := by
  unfold readSteps at h
  split at h
  next steps =>
    injection h with h
    exact ⟨h.symm, steps⟩
  next => cases h

/-- The settings of a SET_ENCODERS that is accepted are in range (R106). -/
theorem readEncoderSettings_range {p : List Byte} {q : EncoderRequest} (h : readEncoderSettings p = .ok q) :
    (q.stepsPerDetent = 1 ∨ q.stepsPerDetent = 2 ∨ q.stepsPerDetent = 4) ∧
      10 ≤ q.interval ∧ q.interval ≤ 500 ∧ q.interval % 10 = 0 := by
  unfold readEncoderSettings at h
  split at h
  next channel enabled steps interval =>
    have h := orRange_ok h
    simp only [Option.bind_eq_bind, Option.bind_eq_some_iff, Option.pure_def, Option.some.injEq] at h
    obtain ⟨c, -, on, -, n, hn, i, hi, rfl⟩ := h
    obtain ⟨-, i1, i50⟩ := readRange_some hi
    obtain ⟨rfl, detent⟩ := readSteps_some hn
    exact ⟨detent, by dsimp only; omega⟩
  next => cases h

theorem clearEncoders_ranges (clear : Bool) (s : State) : RangesKept s (clearEncoders clear s) := by
  unfold clearEncoders
  split
  · exact .of_encoders (fun h => ⟨clearReport_sound h.e0, clearReport_sound h.e1⟩) rfl rfl
  · exact .refl s

/-! ### The fault record (R47, R98, R166) -/

theorem clearFault_sound : FaultSound clearFault := by constructor <;> simp [clearFault]

theorem countGhost_ranges (k : KeyIndex) (s : State) : RangesKept s (countGhost k s) :=
  .of_fault rfl (fun h => { h with
    ghost := satInc_le h.ghost
    noGhost := fun none => absurd none (Nat.one_le_iff_ne_zero.1 (one_le_satInc (by decide))) }) rfl

theorem countRollover_ranges (k : KeyIndex) (s : State) : RangesKept s (countRollover k s) :=
  .of_fault rfl (fun h => { h with
    rollover := satInc_le h.rollover
    noRollover := fun none => absurd none (Nat.one_le_iff_ne_zero.1 (one_le_satInc (by decide))) }) rfl

/-- An operation of the key path that leaves the notice manager alone. -/
theorem KeyPathFrame.ranges {s t : State} (f : KeyPathFrame s t) (notices : t.notices = s.notices) : RangesKept s t :=
  .of_eq f.encoders (congrArg NoticeBlock.fault notices) f.link

theorem flushHeld_notices (s : State) : (flushHeld s).notices = s.notices := by rw [flushHeld_eq]

theorem completeChord_notices (i : SlotIndex) (c : ChordSlot) (s : State) :
    (completeChord i c s).notices = s.notices := by rw [completeChord_eq]

theorem decideChord_notices (s : State) : (decideChord s).notices = s.notices := by
  rcases decideChord_cases s with ⟨i, c, -, e⟩ | e | e <;> rw [e]
  · exact completeChord_notices i c s
  · exact flushHeld_notices s

theorem expireWindow_notices (s : State) : (expireWindow s).notices = s.notices := by
  rcases expireWindow_outcome s with ⟨i, c, -, -, e⟩ | ⟨-, e⟩ <;> rw [e]
  · exact completeChord_notices i c s
  · exact flushHeld_notices s

theorem admitKey_notices (k : KeyIndex) (s : State) : (admitKey k s).notices = s.notices := by
  have press (u : State) : (handPress k s.scan.panelTime u).notices = u.notices := by rw [handPress_eq]
  cases member : s.isMember k
  · rw [admitKey_of_not_member member]
    split
    · exact press (takeIntoDownSet k s)
    · exact (press _).trans (flushHeld_notices (takeIntoDownSet k s))
  · rw [admitKey_of_member member, admitMember_eq]
    exact decideChord_notices (joinHeld k (takeIntoDownSet k s))

theorem releaseKey_notices (k : KeyIndex) (s : State) : (releaseKey k s).notices = s.notices := by
  have path (u : State) : (endRepeatHold k (reportRelease k u)).notices = u.notices := by
    rw [endRepeatHold_eq, reportRelease_eq]
  rcases releaseKey_cases k s with ⟨-, e⟩ | e <;> rw [e]
  · exact path (leaveDownSet k s)
  · exact (path _).trans (flushHeld_notices (leaveDownSet k s))

/-- A refused press is counted in the fault record; an admitted one leaves the record alone (R39, R42, R47). -/
theorem pressAdmission_ranges (k : KeyIndex) (s : State) : RangesKept s (pressAdmission k s) := by
  have blocked (reason : BlockReason) : RangesKept s (blockKey k reason s) := .of_eq rfl rfl rfl
  unfold pressAdmission
  split
  · exact (blocked .ghost).trans (countGhost_ranges k _)
  · split
    · exact (blocked .rollover).trans (countRollover_ranges k _)
    · exact (admitKey_frame k s).ranges (admitKey_notices k s)

theorem debounceStep_ranges (k : KeyIndex) (s : State) : RangesKept s (debounceStep k s) := by
  rcases debounceStep_cases k s with e | ⟨_, _, e⟩ | ⟨-, e⟩ | ⟨-, -, e⟩ | ⟨-, -, e⟩ <;> rw [e]
  · exact .refl s
  · exact .of_eq rfl rfl rfl
  · exact .of_eq rfl rfl rfl
  · exact pressAdmission_ranges k s
  · exact (releaseKey_frame k s).ranges (releaseKey_notices k s)

/-- Contact flags touch none of the three blocks; each debounce step keeps their ranges (R5, R19). -/
theorem sampleEvent_ranges (p : Position) (s : State) : RangesKept s (sampleEvent p s) := by
  have steps (lines : List ReturnLine) (u : State) :
      RangesKept u (lines.foldl (fun s l => debounceStep (keyAt p l) s) u) := by
    induction lines generalizing u with
    | nil => exact .refl u
    | cons l rest ih => exact (debounceStep_ranges (keyAt p l) u).trans (ih _)
  obtain ⟨table, e⟩ := updateContacts_frame p allLines s
  have contacts : RangesKept s (allLines.foldl (updateContact p) s) := by
    rw [e]
    exact .of_eq rfl rfl rfl
  exact contacts.trans (steps allLines _)

theorem settlePending_ranges (s : State) : RangesKept s (settlePending s) := by
  rcases settlePending_cases s with ⟨-, e⟩ | ⟨q, -, ⟨-, e⟩ | ⟨-, e⟩⟩ <;> rw [e]
  · exact .refl s
  · exact .of_eq rfl rfl rfl
  · exact .of_eq rfl rfl rfl

theorem endSlot_ranges (s : State) : RangesKept s (endSlot s) := by
  have sampled : RangesKept s (if s.scan.config.keyScanning then sampleEvent s.scan.slotIndex s else s) := by
    split
    · exact sampleEvent_ranges _ s
    · exact .refl s
  have released (u : State) : RangesKept u (releaseSlot u) := .of_eq rfl rfl rfl
  rw [endSlot_eq]
  split
  · exact (sampled.trans (released _)).trans (settlePending_ranges _)
  · exact sampled.trans (released _)

theorem takeReading_ranges (returns : Byte) (s : State) : RangesKept s (takeReading returns s) := by
  have present : RangesKept s (presentReturns returns s) := .of_eq rfl rfl rfl
  rcases takeReading_cases returns s with ⟨-, -, e⟩ | ⟨p, -, -, -, e⟩ | ⟨-, e⟩ <;> rw [e]
  · exact present.trans (endSlot_ranges _)
  · have taken : RangesKept s { presentReturns returns s with scan.cutSlot := none } := .of_eq rfl rfl rfl
    exact taken.trans (sampleEvent_ranges p _)
  · exact .refl s

/-! ### The link interface (R138 to R149) -/

/-- A link counter is within its cap after it has risen exactly if it was before (R149). -/
theorem bump_le_iff {n : Nat} : bump n ≤ 65535 ↔ n ≤ 65535 := by
  unfold bump satInc
  split <;> omega

theorem reportValidFrame_ranges (s : State) : RangesKept s (reportValidFrame s) := by
  rcases reportValidFrame_cases s with ⟨-, e⟩ | ⟨-, e⟩ <;> rw [e]
  · exact .refl s
  · exact .of_eq rfl rfl rfl

theorem deliverReport_ranges (s : State) : RangesKept s (deliverReport s) := by
  rw [deliverReport_frame s]
  exact .of_link rfl rfl fun h => { h with }

theorem settleDispatcher_ranges (s : State) : RangesKept s (settleDispatcher s) := by
  unfold settleDispatcher
  split <;> exact .of_eq rfl rfl rfl

theorem countUnmatched_ranges (s : State) : RangesKept s (countUnmatched s) :=
  .of_link rfl rfl fun h => { h with counters := by simpa [countUnmatched, bump_le_iff] using h.counters }

theorem dropFrame_ranges (s : State) : RangesKept s (dropFrame s) :=
  .of_link rfl rfl fun h => { h with counters := by simpa [dropFrame, bump_le_iff] using h.counters }

theorem refuseArrival_ranges (f : Frame) (s : State) : RangesKept s (refuseArrival f s) :=
  .of_link rfl rfl fun h => { h with counters := by simpa [refuseArrival, bump_le_iff] using h.counters }

theorem settleAck_ranges (f : Frame) (s : State) : RangesKept s (settleAck f s) := by
  unfold settleAck acknowledge
  split
  · split
    · exact .of_eq rfl rfl rfl
    · exact countUnmatched_ranges s
  · exact countUnmatched_ranges s

theorem settleArrival_ranges (f : Frame) (s : State) : RangesKept s (settleArrival f s) := by
  refine RangesKept.trans ?_ (settleDispatcher_ranges _)
  split
  · exact .of_eq rfl rfl rfl
  · split
    · exact refuseArrival_ranges f s
    · exact dropFrame_ranges s

theorem settleUnknown_ranges (f : Frame) (s : State) : RangesKept s (settleUnknown f s) := by
  refine RangesKept.trans ?_ (settleDispatcher_ranges _)
  split
  · exact .of_eq rfl rfl rfl
  · exact dropFrame_ranges s

theorem handOn_ranges (f : Frame) (s : State) : RangesKept s (handOn f s) := by
  rcases handOn_cases f s with ⟨-, e⟩ | ⟨-, -, e⟩ | ⟨-, e⟩ <;> rw [e]
  · exact (settleArrival_ranges f s).trans (reportValidFrame_ranges _)
  · exact (settleAck_ranges f s).trans (reportValidFrame_ranges _)
  · exact (settleUnknown_ranges f s).trans (reportValidFrame_ranges _)

/-- In HUNT nothing is held and the gap timer is stopped (R140). -/
theorem huntAgain_ranges (s : State) : RangesKept s (huntAgain s) :=
  .of_link rfl rfl fun h => { h with partialFrame := trivial, gap := by simp }

/-- Outside HUNT the gap timer runs (R140, R142). -/
theorem advanceRx_ranges {rx : RxState} {s : State} (frame : LinkSound s.link → rx.sound) (out : rx ≠ .hunt) :
    RangesKept s (advanceRx rx s) :=
  .of_link rfl rfl fun h => { h with
    partialFrame := frame h
    gap := iff_of_true rfl out }

theorem takeCheck_ranges (len : Nat) (body : List Byte) (check : Byte) (s : State) :
    RangesKept s (takeCheck len body check s) := by
  unfold takeCheck
  split
  · exact (huntAgain_ranges s).trans (handOn_ranges _ _)
  · refine RangesKept.trans ?_ (huntAgain_ranges _)
    exact .of_link rfl rfl fun h => { h with counters := by simpa [bump_le_iff] using h.counters }

/-- The receiver takes a good byte: each state it moves to holds the part of a frame that R140 allows. -/
theorem takeByte_ranges (b : Byte) (s : State) : RangesKept s (takeByte b s) := by
  unfold takeByte
  split
  · split
    · exact advanceRx_ranges (fun _ => trivial) nofun
    · exact .refl s
  · split
    next hb => exact advanceRx_ranges (fun _ => ⟨hb.1, hb.2, Nat.lt_of_lt_of_le (by decide) hb.1⟩) nofun
    next =>
      refine RangesKept.trans ?_ (huntAgain_ranges _)
      exact .of_link rfl rfl fun h => { h with counters := by simpa [bump_le_iff] using h.counters }
  next len got hrx =>
    have held (h : LinkSound s.link) : 2 ≤ len ∧ len ≤ 40 ∧ got.length < len := by
      have := h.partialFrame
      rwa [hrx] at this
    refine advanceRx_ranges (fun h => ?_) (by split <;> nofun)
    obtain ⟨low, high, short⟩ := held h
    split
    next more => exact ⟨low, high, more⟩
    next full =>
      rw [List.length_append, List.length_singleton] at full
      exact ⟨low, high, by rw [List.length_append, List.length_singleton]; omega⟩
  · exact takeCheck_ranges _ _ b s

theorem byteArrives_ranges (s : State) : RangesKept s (byteArrives s) := by
  unfold byteArrives
  split
  · exact .refl s
  · exact .of_eq rfl rfl rfl
  · exact wakePart_ranges .link s

theorem goodByteArrives_ranges (s : State) : RangesKept s (goodByteArrives s) := by
  have high : RangesKept s { s with link.lineHeld := false } := .of_link rfl rfl fun h => { h with }
  exact high.trans (byteArrives_ranges _)

theorem takeFramingError_ranges (s : State) : RangesKept s (takeFramingError s) := by
  refine RangesKept.trans ?_ (huntAgain_ranges _)
  exact .of_link rfl rfl fun h => { h with counters := by simpa [bump_le_iff] using h.counters }

theorem expireGap_ranges (s : State) : RangesKept s (expireGap s) := by
  unfold expireGap
  split
  · refine RangesKept.trans ?_ (huntAgain_ranges _)
    exact .of_link rfl rfl fun h => { h with counters := by simpa [bump_le_iff] using h.counters }
  · exact .refl s

/-- The completion of a frame held keeps the ranges if settling the frame does. -/
theorem completeHeld_ranges {sort : Byte → Bool} {settle : Frame → State → State} {s : State}
    (settled : ∀ f u, RangesKept u (settle f u)) : RangesKept s (completeHeld sort settle s) := by
  rcases completeHeld_cases sort settle s with e | ⟨f, -, -, e⟩ <;> rw [e]
  · exact .refl s
  · exact ((goodByteArrives_ranges s).trans (huntAgain_ranges _)).trans (settled f _)

/-- A reply begun counts one more in a row, up to 2 (R147). -/
theorem beginReply_ranges (f : Frame) (rest : List Frame) (s : State) : RangesKept s (beginReply f rest s) :=
  .of_link rfl rfl fun h => { h with
    run := by
      have := h.run
      simp only [beginReply]
      split <;> omega }

/-- A notice begun ends the replies in a row, and one sent again is counted (R147, R170). -/
theorem chooseNotice_ranges (s : State) : RangesKept s (chooseNotice s) := by
  unfold chooseNotice
  split
  next n entries _ =>
    refine .of_link rfl rfl fun h => { h with run := Nat.zero_le 2, counters := ?_ }
    by_cases again : n.transmit = .resend <;> simpa [beginNotice, again, bump_le_iff] using h.counters
  next => exact .refl s

theorem chooseFrame_ranges (s : State) : RangesKept s (chooseFrame s) := by
  unfold chooseFrame
  split
  · split
    · exact chooseNotice_ranges s
    · exact beginReply_ranges _ _ s
  · split
    · exact chooseNotice_ranges s
    · exact .refl s

theorem zeroCounters_ranges (s : State) : RangesKept s { s with link.counters := zeroCounters } :=
  .of_link rfl rfl fun h => { h with counters := by simp [zeroCounters] }

/-! ### Resets, sleep entry and composition -/

/-- Either reset leaves the encoder channels and the fault record at their reset values, and the link interface in range
with the counters that the reset gives it (R10, R95, R149, R163, R166). -/
theorem resetPart_ranges {cause : ReadyCause} {rate : LinkRate} {counters : LinkCounters} {held : Bool} {s : State}
    (h : LinkSound s.link → LinkSound { s.link with counters := counters }) :
    RangesKept s (resetPart cause (resetLink rate counters held) s) where
  encoders _ := ⟨resetChannel_sound _, resetChannel_sound _⟩
  fault _ := clearFault_sound
  link sound :=
    { partialFrame := trivial
      gap := by simp [resetPart, resetLink]
      run := Nat.zero_le 2
      counters := (h sound).counters }

theorem hardwareResetEnds_ranges (cause : ReadyCause) (s : State) : RangesKept s (hardwareResetEnds cause s) :=
  resetPart_ranges (zeroCounters_ranges s).link

theorem restartTakesEffect_ranges (s : State) : RangesKept s (restartTakesEffect s) :=
  (resetPart_ranges id).trans (.of_eq rfl rfl rfl)

theorem checkSleepEntry_ranges (s : State) : RangesKept s (checkSleepEntry s) := by
  unfold checkSleepEntry
  split <;> exact .of_eq rfl rfl rfl

theorem endTransmission_ranges (f : TxFrame) (s : State) : RangesKept s (endTransmission f s) := by
  have idle : RangesKept s { s with link.tx := none } := .of_link rfl rfl fun h => { h with }
  rcases endTransmission_cases f s with ⟨-, e⟩ | ⟨-, -, -, e⟩ | ⟨-, -, e⟩ | e <;> rw [e]
  · refine idle.trans ?_
    unfold noticeSent
    split <;> exact .of_eq rfl rfl rfl
  · exact idle.trans (restartTakesEffect_ranges _)
  · exact idle.trans (checkSleepEntry_ranges _)
  · exact idle

/-- A PANEL_FAULT notice clears the fault record and an ENCODER notice the channels it reports; no other composition
touches the three blocks (R103, R166, R169). -/
theorem composeClass_ranges (c : NoticeClass) (s : State) : RangesKept s (composeClass c s) := by
  cases c with
  | ready | wake =>
    simp only [composeClass]
    split <;> exact .of_eq rfl rfl rfl
  | panelFault => exact .of_fault rfl (fun _ => clearFault_sound) rfl
  | keys => exact .of_eq rfl rfl rfl
  | encoder => exact .of_encoders (fun h => ⟨reportChannel_sound h.e0, reportChannel_sound h.e1⟩) rfl rfl

theorem composeNotice_ranges (s : State) : RangesKept s (composeNotice s) := by
  unfold composeNotice
  split
  · split
    · exact composeClass_ranges _ s
    · exact .refl s
  · exact .refl s

theorem sweepOnce_ranges (s : State) : RangesKept s (sweepOnce s) := by
  have driven : RangesKept s (sweepLines s) := .of_eq rfl rfl rfl
  unfold sweepOnce settleSweep
  split
  · exact driven.trans (wakePart_ranges .key _)
  · exact .of_eq rfl rfl rfl

/-! ### Every command -/

theorem liveStep_ranges (c : Instr) (s : State) : RangesKept s (liveStep c s) := by
  have present (pins : EncoderPins) : RangesKept s (presentEncoderPins pins s) := .of_eq rfl rfl rfl
  cases c
  case millisecondTick => exact tick_ranges s
  case slotEnd returns => exact takeReading_ranges returns s
  case noticeComposition => exact composeNotice_ranges s
  case gapTimerExpiry => exact expireGap_ranges s
  case ack =>
    exact completeHeld_ranges (sort := fun k => k == ackKind) fun f u =>
      (settleAck_ranges f u).trans (reportValidFrame_ranges _)
  case requestArrival =>
    exact completeHeld_ranges (settle := fun f u => { settleArrival f u with link.reportOwed := true }) fun f u =>
      (settleArrival_ranges f u).trans (.of_link rfl rfl fun h => { h with })
  case unknownKindFrame =>
    exact completeHeld_ranges (sort := fun k => !isKnownKind k) fun f u =>
      (settleUnknown_ranges f u).trans (reportValidFrame_ranges _)
  case chordWindowExpiry =>
    simp only [liveStep]
    split
    · exact (expireWindow_frame s).1.ranges (expireWindow_notices s)
    · exact .refl s
  case encoderSample ch q =>
    have presented : RangesKept s (presentPair ch q s) := by cases ch <;> exact .of_eq rfl rfl rfl
    simp only [liveStep]
    split
    · exact presented.trans (takeSample_ranges ch _)
    · exact presented
  case coalescingTimerExpiry ch pins =>
    simp only [liveStep]
    split
    · exact (present pins).trans (expireCoalescing_ranges ch _)
    · exact present pins
  case encoderPinChange pins =>
    simp only [liveStep]
    split
    · exact (present pins).trans (wakePart_ranges .encoder _)
    · exact present pins
  case wakeSweep returns pins =>
    have presented : RangesKept s (presentEncoderPins pins (presentReturns returns s)) := .of_eq rfl rfl rfl
    simp only [liveStep]
    split
    · exact presented.trans (sweepOnce_ranges _)
    · exact presented
  case receiveByte b sawHigh pins =>
    simp only [liveStep]
    split
    · exact ((present pins).trans (goodByteArrives_ranges _)).trans (takeByte_ranges b _)
    · exact present pins
  case framingError sawHigh pins =>
    simp only [liveStep]
    split
    · exact ((present pins).trans (byteArrives_ranges _)).trans (takeFramingError_ranges _)
    · exact present pins
  case arbiterChoice =>
    simp only [liveStep]
    split
    · exact chooseFrame_ranges s
    · exact .refl s
  case endOfTransmission pins =>
    simp only [liveStep]
    split
    · exact (present pins).trans (endTransmission_ranges _ _)
    · exact present pins
  case repeatTimerExpiry =>
    simp only [liveStep]
    split
    · split <;> exact .of_eq rfl rfl rfl
    · exact .refl s
  case acknowledgementTimerExpiry =>
    simp only [liveStep, expireAck]
    split
    · split <;> exact .of_eq rfl rfl rfl
    · exact .refl s
  case slotStart | holdTimerExpiry | blinkTimerExpiry | testTimerExpiry =>
    simp only [liveStep, expireBlink, expireTest]
    split <;> exact .of_eq rfl rfl rfl
  all_goals exact .refl s

/-- Serving a request keeps the ranges if executing it does. -/
theorem serve_ranges {kind : Byte} {execute : Frame → State → State} {s : State}
    (h : ∀ r u, RangesKept u (execute r u)) : RangesKept s (serve kind execute s) :=
  serve_keeps (Inv := RangesKept s) (.refl s) fun r rest _ _ _ =>
    RangesKept.trans (t := { s with dispatch.requests := rest }) (.of_eq rfl rfl rfl) (h r _)

/-- A request answered at execution keeps the ranges if its effect, with the fields that its checks let pass, does
(R157). -/
theorem serve_answer_ranges {α : Type} {kind : Byte} {fields : Frame → State → Read α} {effect : α → State → State}
    {reply : α → State → List Byte} {s : State} (h : ∀ r a u, fields r u = .ok a → RangesKept u (effect a u)) :
    RangesKept s (serve kind (fun r u => answer (fields r u) effect reply r u) s) :=
  serve_ranges fun r u => answer_keeps (Inv := RangesKept u) (fun _ => .of_eq rfl rfl rfl) fun a _ ha =>
    (h r a u ha).trans (.of_eq rfl rfl rfl)

theorem whenServing_ranges {f : State → State} {s t : State} (he : whenServing f s = .next t)
    (h : RangesKept s (f s)) : RangesKept s t := by
  rcases whenServing_next he with ⟨-, rfl⟩ | ⟨-, rfl⟩
  · exact h.trans (deliverReport_ranges _)
  · exact .refl _

/-- Of the requests SET_ENCODERS and READ_ENCODERS touch the encoder unit and GET_LINK_STATS the counters (R107, R108,
R150). -/
theorem exec_request_ranges {c : Instr} {kind : Byte} {s t : State} (hk : c.requestKind = some kind)
    (he : exec c s = .next t) : RangesKept s t := by
  cases c
  case restart =>
    refine whenServing_ranges he (serve_ranges fun r u => ?_)
    unfold executeRestart
    split <;> exact .of_eq rfl rfl rfl
  case setScan =>
    refine whenServing_ranges he (serve_ranges fun r u => ?_)
    unfold executeSetScan
    split <;> exact .of_eq rfl rfl rfl
  case sleep =>
    refine whenServing_ranges he (serve_ranges fun r u => ?_)
    unfold executeSleep
    split
    · exact .of_eq rfl rfl rfl
    · split <;> exact .of_eq rfl rfl rfl
  case setChord =>
    refine whenServing_ranges he (serve_answer_ranges fun _ q u _ => ?_)
    rw [writeChord_eq]
    split
    · exact .of_eq rfl rfl rfl
    · exact ((flushHeld_frame u).1.ranges (flushHeld_notices u)).trans (.of_eq rfl rfl rfl)
  case setEncoders pins =>
    have he : execSetEncoders pins s = .next t := he
    unfold execSetEncoders at he
    have presented : RangesKept s (presentEncoderPins pins s) := .of_eq rfl rfl rfl
    refine whenServing_ranges he (presented.trans (serve_answer_ranges fun r q u hq => ?_))
    obtain ⟨steps, interval⟩ := readEncoderSettings_range hq
    exact .of_encoders
      (fun h => setChannel_encodersSound h (configureChannel_sound (h.channel q.channel) steps interval))
      (by simp [setEncoders]) (by simp [setEncoders])
  case readEncoders =>
    exact whenServing_ranges he (serve_answer_ranges fun _ clear u _ => clearEncoders_ranges clear u)
  case getLinkStats =>
    refine whenServing_ranges he (serve_answer_ranges fun _ clear u _ => ?_)
    split
    · exact zeroCounters_ranges u
    · exact .refl u
  case setGlyphs =>
    refine whenServing_ranges he (serve_answer_ranges fun _ (bank, start, patterns) u _ => ?_)
    cases bank <;> exact .of_eq rfl rfl rfl
  case identify | getStatus | setKeymap | getKeymap | readKeys | getChord | setTiming | flushKeys | writeDisplay |
      setDisplay | displayTest | readDisplay | setNotices =>
    exact whenServing_ranges he (serve_answer_ranges fun _ _ _ _ => .of_eq rfl rfl rfl)
  all_goals cases hk

theorem exec_ranges {c : Instr} {s t : State} (he : exec c s = .next t) : RangesKept s t := by
  cases hk : c.requestKind with
  | some kind => exact exec_request_ranges hk he
  | none =>
    by_cases hreset : ∃ cause spd pins, c = .hardwareReset cause spd pins
    · obtain ⟨cause, spd, pins, rfl⟩ := hreset
      simp only [exec, execHardwareReset] at he
      split at he <;> injection he with he <;> subst he
      · refine RangesKept.trans ?_ (hardwareResetEnds_ranges cause _)
        exact .of_eq rfl rfl rfl
      · exact .refl s
    by_cases hlow : c = .nrstHeldLow
    · subst hlow
      injection he with he
      subst he
      exact .of_link rfl rfl fun h => { h with }
    rw [exec_event hk (fun cause spd pins hc => hreset ⟨cause, spd, pins, hc⟩) hlow] at he
    rcases whenLive_next he with ⟨-, rfl⟩ | ⟨-, rfl⟩
    · exact (deliverReport_ranges s).trans (liveStep_ranges c _)
    · exact .refl _

/-- Settles O57, by `exec_ranges` for every command. -/
theorem stepKeepsEncodersFaultsAndLinkSound : Obligations.StepKeepsEncodersFaultsAndLinkSound := by
  unfold Obligations.StepKeepsEncodersFaultsAndLinkSound
  intro s t hstep
  have kept : RangesKept s t := by
    rcases step_cases hstep with ⟨-, rfl⟩ | ⟨c, rest, -, he⟩
    · exact .refl _
    · exact RangesKept.trans (t := { s with pending := rest }) (.of_eq rfl rfl rfl) (exec_ranges he)
  exact ⟨kept.encoders, kept.fault, kept.link⟩

end Sys2Proof.Machine
end

section
/-!
Obligation O19: one sample of one encoder channel (R96 to R101, R104).
-/
namespace Sys2Proof.Machine

/-! ### How a sample classes a new pair (R97) -/

theorem classify_same (q : QuadPair) : classify q q = .same := if_pos rfl

theorem classify_double (q : QuadPair) : classify q (~~~q) = .double := by
  revert q; decide

theorem classify_forward {q new : QuadPair} (h : (q, new) ∈ [(0#2, 1#2), (1#2, 3#2), (3#2, 2#2), (2#2, 0#2)]) :
    classify q new = .forward := by
  revert q new; decide

theorem classify_backward {q new : QuadPair} (h : (new, q) ∈ [(0#2, 1#2), (1#2, 3#2), (3#2, 2#2), (2#2, 0#2)]) :
    classify q new = .backward := by
  revert q new; decide

/-! ### The channel after a sample (R97 to R101) -/

theorem forwardDetent_eq (e : EncoderChannel) :
    forwardDetent e = { e with
      position := e.position + 1#16
      delta := if e.delta = 127 then 127 else e.delta + 1
      overFlag := if e.delta = 127 then true else e.overFlag } := by
  unfold forwardDetent
  split
  next limit => rw [limit]
  next => rfl

theorem backwardDetent_eq (e : EncoderChannel) :
    backwardDetent e = { e with
      position := e.position - 1#16
      delta := if e.delta = -127 then -127 else e.delta - 1
      overFlag := if e.delta = -127 then true else e.overFlag } := by
  unfold backwardDetent
  split
  next limit => rw [limit]
  next => rfl

/-- The step count as one update: at plus or minus the steps per detent the accumulator returns to 0 and the detent is
counted (R99 to R101). -/
theorem countSteps_eq (acc : Int) (e : EncoderChannel) :
    countSteps acc e =
      if acc = e.stepsPerDetent then
        { e with
          acc := 0
          position := e.position + 1#16
          delta := if e.delta = 127 then 127 else e.delta + 1
          overFlag := if e.delta = 127 then true else e.overFlag }
      else if acc = -(e.stepsPerDetent : Int) then
        { e with
          acc := 0
          position := e.position - 1#16
          delta := if e.delta = -127 then -127 else e.delta - 1
          overFlag := if e.delta = -127 then true else e.overFlag }
      else { e with acc := acc } := by
  rw [countSteps, forwardDetent_eq, backwardDetent_eq]

theorem sampleChannel_of_same {new : QuadPair} {e : EncoderChannel} (h : classify e.quad new = .same) :
    sampleChannel new e = e := by
  simp only [sampleChannel, h]

theorem sampleChannel_of_forward {new : QuadPair} {e : EncoderChannel} (h : classify e.quad new = .forward) :
    sampleChannel new e = countSteps (e.acc + 1) { e with quad := new } := by
  simp only [sampleChannel, h]

theorem sampleChannel_of_backward {new : QuadPair} {e : EncoderChannel} (h : classify e.quad new = .backward) :
    sampleChannel new e = countSteps (e.acc - 1) { e with quad := new } := by
  simp only [sampleChannel, h]

theorem sampleChannel_of_double {new : QuadPair} {e : EncoderChannel} (h : classify e.quad new = .double) :
    sampleChannel new e = { e with quad := new } := by
  simp only [sampleChannel, h]

/-- Whether the tick's sample is still due makes no difference to what a sample does. -/
theorem sampleChannel_sampleDue (new : QuadPair) (due : Bool) (e : EncoderChannel) :
    { sampleChannel new e with sampleDue := due } = sampleChannel new { e with sampleDue := due } := by
  simp only [sampleChannel]
  cases classify e.quad new with
  | same | double => rfl
  | forward | backward =>
    simp only [countSteps_eq]
    split
    · rfl
    · split <;> rfl

/-! ### ENCODER_SAMPLE (R96, R104) -/

theorem presentPair_channel (ch : Channel) (new : QuadPair) (s : State) :
    (presentPair ch new s).channel ch = s.channel ch := by
  cases ch <;> rfl

theorem presentPair_pinsOf (ch : Channel) (new : QuadPair) (s : State) : (presentPair ch new s).pinsOf ch = new := by
  cases ch <;> rfl

theorem presentPair_frame (ch : Channel) (new : QuadPair) (s : State) :
    (presentPair ch new s).power = s.power ∧ (presentPair ch new s).notices = s.notices := by
  cases ch <;> exact ⟨rfl, rfl⟩

theorem sampleAwaits_iff (ch : Channel) (new : QuadPair) (s : State) :
    (presentPair ch new s).sampleAwaits ch = true ↔
      (s.channel ch).enabled = true ∧ (s.channel ch).sampleDue = true ∧ s.power.state ≠ .asleep := by
  simp [State.sampleAwaits, presentPair_channel, (presentPair_frame ch new s).1, and_assoc]

theorem exec_encoderSample {ch : Channel} {new : QuadPair} {s : State} (hl : s.live) :
    exec (.encoderSample ch new) s = .next
      (if (presentPair ch new s).sampleAwaits ch then takeSample ch (presentPair ch new s)
      else presentPair ch new s) := by
  rw [exec_event (c := .encoderSample ch new) rfl nofun nofun, whenLive_of_live hl]
  rfl

/-- A sample that is taken, as one update of its channel, with the fault that a double change counts (R98). -/
theorem takeSample_eq (ch : Channel) (new : QuadPair) (s : State) :
    takeSample ch (presentPair ch new s) =
      if classify (s.channel ch).quad new = .double then
        { (presentPair ch new s).setChannel ch (sampleChannel new { s.channel ch with sampleDue := false }) with
          notices.fault := countEncoderFault ch s.notices.fault }
      else (presentPair ch new s).setChannel ch (sampleChannel new { s.channel ch with sampleDue := false }) := by
  simp only [takeSample, presentPair_channel, presentPair_pinsOf, sampleChannel_sampleDue,
    (presentPair_frame ch new s).2]

/-- Settles O19: the sample is taken (`takeSample_eq`) by the class of the new pair, or none awaits. -/
theorem encoderSampleCountsStepsAndDetents : Obligations.EncoderSampleCountsStepsAndDetents := by
  unfold Obligations.EncoderSampleCountsStepsAndDetents
  refine ⟨fun ch new s hl enabled due awake => ?_, fun ch new s hl none => ?_⟩
  · intro e u up
    have taken : exec (.encoderSample ch new) s = .next (takeSample ch (presentPair ch new s)) := by
      rw [exec_encoderSample hl, if_pos ((sampleAwaits_iff ch new s).2 ⟨enabled, due, awake⟩)]
    rw [taken, takeSample_eq]
    refine ⟨fun same => ?_, fun double => ?_, fun forward => ?_, fun backward => ?_⟩
    · have class_eq : classify e.quad new = .same := same ▸ classify_same e.quad
      rw [if_neg (by rw [class_eq]; nofun), sampleChannel_of_same class_eq]
    · have class_eq : classify e.quad new = .double := double ▸ classify_double e.quad
      rw [if_pos class_eq, sampleChannel_of_double class_eq]
      cases ch <;> rfl
    · have class_eq : classify e.quad new = .forward := classify_forward forward
      rw [if_neg (by rw [class_eq]; nofun), sampleChannel_of_forward class_eq, countSteps_eq]
    · have class_eq : classify e.quad new = .backward := classify_backward backward
      rw [if_neg (by rw [class_eq]; nofun), sampleChannel_of_backward class_eq, countSteps_eq]
  · rw [exec_encoderSample hl, if_neg]
    rw [sampleAwaits_iff]
    rintro ⟨enabled, due, awake⟩
    rcases none with off | sampled | asleep
    · simp [off] at enabled
    · simp [sampled] at due
    · exact awake asleep

end Sys2Proof.Machine
end

section
/-!
Obligation O38: READ_ENCODERS and GET_LINK_STATS report their fields and then clear them if asked to (R108, R149, R150).
-/
namespace Sys2Proof.Machine

/-! ### The clear flag (R176) -/

theorem readClear_off {p : List Byte} (h : p = [0x00#8]) : readClear p = .ok false := by rw [h]; rfl

theorem readClear_on {p : List Byte} (h : p = [0x01#8]) : readClear p = .ok true := by rw [h]; rfl

theorem readClear_of_lt {p : List Byte} {b : Byte} (hp : p = [b]) (h : 1 < b.toNat) : readClear p = .error .range := by
  rw [hp, readClear, readBool_eq, if_neg (by omega)]
  rfl

theorem readClear_of_length_ne {p : List Byte} (h : p.length ≠ 1) : readClear p = .error .badLength := by
  unfold readClear
  split
  · exact absurd rfl h
  · rfl

/-! ### The fields (13, "Channel record of READ_ENCODERS") -/

/-- The channel flags are the sum of their bits. -/
theorem channelFlags_eq (enabled running limited : Bool) :
    flagBit enabled 0 ||| flagBit running 1 ||| flagBit limited 2 =
      BitVec.ofNat 8 ((if enabled = true then 2 ^ 0 else 0) + (if running = true then 2 ^ 1 else 0) +
        (if limited = true then 2 ^ 2 else 0)) := by
  revert enabled running limited; decide

theorem channelFields_eq (e : EncoderChannel) :
    e.fields = [BitVec.ofNat 8 ((if e.enabled = true then 2 ^ 0 else 0) + (if e.timer.isSome = true then 2 ^ 1 else 0) +
        (if e.overFlag = true then 2 ^ 2 else 0)), BitVec.ofNat 8 e.stepsPerDetent, BitVec.ofNat 8 (e.interval / 10),
      e.position.extractLsb' 8 8, e.position.extractLsb' 0 8, BitVec.ofInt 8 e.delta] := by
  rw [EncoderChannel.fields, channelFlags_eq]
  rfl

/-! ### The two requests (R108, R150) -/

/-- A request that passes every check may touch the link interface, but for whether a report is owed (R157, R174). -/
theorem whenServing_answer_accepted_of_owed {α : Type} {kind : Byte} {fields : Frame → State → Read α}
    {effect : α → State → State} {reply : α → State → List Byte} {r : Frame} {rest : List Frame} {s : State}
    (hs : s.serves kind r rest) {a : α} (h : fields r { s with dispatch.requests := rest } = .ok a)
    (dispatch : (effect a { s with dispatch.requests := rest }).dispatch = { s.dispatch with requests := rest })
    (owed : (effect a { s with dispatch.requests := rest }).link.reportOwed = s.link.reportOwed) :
    whenServing (serve kind fun r u => answer (fields r u) effect reply r u) s =
      .next { effect a { s with dispatch.requests := rest } with
        dispatch := (s.replied r rest (0x00#8 :: reply a { s with dispatch.requests := rest })).dispatch } := by
  have run := (serve_of_serves (fun r u => answer (fields r u) effect reply r u) hs).trans
    ((congrArg (answer · effect reply r _) h).trans (answer_ok a effect reply r rest s dispatch))
  rw [whenServing_of_live hs.1 (by rw [run]; exact owed), run]

theorem exec_readEncoders_refused {r : Frame} {rest : List Frame} {s : State} (hs : s.serves 0x0D#8 r rest)
    {code : ResultCode} (h : readClear r.payload = .error code) :
    exec .readEncoders s = .next (s.replied r rest [code.byte]) :=
  whenServing_answer_refused (fields := fun r _ => readClear r.payload) hs h

/-- The reply is made up before the clear (R108). -/
theorem exec_readEncoders_accepted {r : Frame} {rest : List Frame} {s : State} (hs : s.serves 0x0D#8 r rest)
    {clear : Bool} (h : readClear r.payload = .ok clear) :
    exec .readEncoders s = .next
      (clearEncoders clear (s.replied r rest (0x00#8 :: (s.encoders.e0.fields ++ s.encoders.e1.fields)))) := by
  refine (whenServing_answer_accepted (fields := fun r _ => readClear r.payload) (effect := clearEncoders) hs h ?_
    ?_).trans ?_ <;> cases clear <;> rfl

theorem exec_getLinkStats_refused {r : Frame} {rest : List Frame} {s : State} (hs : s.serves 0x15#8 r rest)
    {code : ResultCode} (h : readClear r.payload = .error code) :
    exec .getLinkStats s = .next (s.replied r rest [code.byte]) :=
  whenServing_answer_refused (fields := fun r _ => readClear r.payload) hs h

/-- The reply is made up before the clear (R150). -/
theorem exec_getLinkStats_accepted {r : Frame} {rest : List Frame} {s : State} (hs : s.serves 0x15#8 r rest)
    {clear : Bool} (h : readClear r.payload = .ok clear) :
    exec .getLinkStats s = .next { s.replied r rest (0x00#8 :: s.link.counters.fields) with
      link.counters := if clear then zeroCounters else s.link.counters } := by
  refine (whenServing_answer_accepted_of_owed (fields := fun r _ => readClear r.payload)
    (effect := fun clear s => if clear then { s with link.counters := zeroCounters } else s) hs h ?_ ?_).trans ?_ <;>
    cases clear <;> rfl

/-- Settles O38: each request by what its clear flag reads as, with the fields of a channel rewritten. -/
theorem clearingReadsReportBeforeTheyClear : Obligations.ClearingReadsReportBeforeTheyClear := by
  unfold Obligations.ClearingReadsReportBeforeTheyClear
  intro r rest s byte hi lo bit fields c encoders counters
  have reported : encoders = 0x00#8 :: (s.encoders.e0.fields ++ s.encoders.e1.fields) := by
    rw [channelFields_eq, channelFields_eq]
    rfl
  refine ⟨fun hs => ⟨fun off => ?_, fun on => ?_, fun b hp wrong => ?_, fun length => ?_⟩,
    fun hs => ⟨fun off => ?_, fun on => ?_, fun b hp wrong => ?_, fun length => ?_⟩⟩
  · rw [exec_readEncoders_accepted hs (readClear_off off), reported]
    rfl
  · rw [exec_readEncoders_accepted hs (readClear_on on), reported]
    rfl
  · exact exec_readEncoders_refused hs (readClear_of_lt hp wrong)
  · exact exec_readEncoders_refused hs (readClear_of_length_ne length)
  · exact exec_getLinkStats_accepted hs (readClear_off off)
  · exact exec_getLinkStats_accepted hs (readClear_on on)
  · exact exec_getLinkStats_refused hs (readClear_of_lt hp wrong)
  · exact exec_getLinkStats_refused hs (readClear_of_length_ne length)

end Sys2Proof.Machine
end

section
/-!
Obligation O45: SET_ENCODERS configures the channel it names (R104, R106, R107).
-/
namespace Sys2Proof.Machine

/-! ### The fields (R106) -/

/-- The four fields of SET_ENCODERS in their ranges (R106). -/
def EncoderFieldsInRange (channel enabled steps interval : Byte) : Prop :=
  channel.toNat ≤ 1 ∧ enabled.toNat ≤ 1 ∧ (steps.toNat = 1 ∨ steps.toNat = 2 ∨ steps.toNat = 4) ∧
    1 ≤ interval.toNat ∧ interval.toNat ≤ 50

/-- A byte names a channel exactly from 0 to 1 (R106). -/
theorem readChannel_eq (b : Byte) :
    readChannel b = if b.toNat ≤ 1 then some (if b = 0x00#8 then .e0 else .e1) else none := by
  revert b; decide

theorem readChannel_some {b : Byte} {c : Channel} (h : readChannel b = some c) : b.toNat ≤ 1 := by
  rw [readChannel_eq] at h
  split at h
  next le => exact le
  next => cases h

theorem readEncoderSettings_of_inRange {channel enabled steps interval : Byte}
    (h : EncoderFieldsInRange channel enabled steps interval) :
    readEncoderSettings [channel, enabled, steps, interval] = .ok
      { channel := if channel = 0x00#8 then .e0 else .e1, enabled := decide (enabled = 0x01#8),
        stepsPerDetent := steps.toNat, interval := interval.toNat * 10 } := by
  obtain ⟨named, flag, detent, i1, i50⟩ := h
  simp [readEncoderSettings, readChannel_eq, named, readBool_eq, flag, readSteps, detent, readRange_eq ⟨i1, i50⟩,
    orRange]

/-- A field out of its range leaves nothing to read: values read are in range (R106). -/
theorem readEncoderSettings_of_not_inRange {channel enabled steps interval : Byte}
    (h : ¬ EncoderFieldsInRange channel enabled steps interval) :
    readEncoderSettings [channel, enabled, steps, interval] = .error .range := by
  cases e : readEncoderSettings [channel, enabled, steps, interval] with
  | ok q =>
    have fields := orRange_ok e
    simp only [Option.bind_eq_bind, Option.bind_eq_some_iff] at fields
    obtain ⟨_, named, _, flag, _, detent, _, time, -⟩ := fields
    obtain ⟨rfl, i1, i50⟩ := readRange_some time
    exact absurd ⟨readChannel_some named, readBool_some flag, (readSteps_some detent).2, i1, i50⟩ h
  | error code => exact congrArg Except.error (orRange_error e)

theorem readEncoderSettings_of_length_ne {p : List Byte} (h : p.length ≠ 4) :
    readEncoderSettings p = .error .badLength := by
  unfold readEncoderSettings
  split
  · exact absurd rfl h
  · rfl

/-- A flag that is read and is not on is off (R176). -/
theorem decide_on_eq_false_iff {b : Byte} (h : b.toNat ≤ 1) : decide (b = 0x01#8) = false ↔ b = 0x00#8 := by
  revert b; decide

/-! ### The channel configured (R104, R107) -/

/-- The configured channel as one update. -/
theorem configureChannel_eq (pins : QuadPair) (q : EncoderRequest) (e : EncoderChannel) :
    configureChannel pins q e = { e with
      enabled := q.enabled
      stepsPerDetent := q.stepsPerDetent
      interval := q.interval
      acc := if (q.enabled = true ∧ e.enabled = false) ∨ q.stepsPerDetent ≠ e.stepsPerDetent then 0 else e.acc
      quad := if q.enabled = true ∧ e.enabled = false then pins else e.quad
      sampleDue := if q.enabled = false ∨ e.enabled = false then false else e.sampleDue } := by
  cases hq : q.enabled <;> cases he : e.enabled <;> simp [configureChannel, hq, he]

/-! ### The request -/

/-- The levels a SET_ENCODERS carries are on the pins before the dispatcher looks at its requests (log 3). -/
theorem exec_setEncoders_eq {pins : EncoderPins} {s : State} (hl : s.live) :
    exec (.setEncoders pins) s =
      whenServing (serve 0x0C#8 fun r => answer (readEncoderSettings r.payload) setEncoders noFields r)
        (presentEncoderPins pins s) := by
  have nrst := hl.1
  show execSetEncoders pins s = _
  rw [execSetEncoders, whenServing_eq, whenServing_eq, presentEncoderPins_nrst, if_pos nrst, if_pos nrst]

theorem State.serves.present {kind : Byte} {r : Frame} {rest : List Frame} {s : State} (h : s.serves kind r rest)
    (pins : EncoderPins) : (presentEncoderPins pins s).serves kind r rest := h

theorem exec_setEncoders_refused {r : Frame} {rest : List Frame} {pins : EncoderPins} {s : State}
    (hs : s.serves 0x0C#8 r rest) {code : ResultCode} (h : readEncoderSettings r.payload = .error code) :
    exec (.setEncoders pins) s = .next ((presentEncoderPins pins s).replied r rest [code.byte]) := by
  rw [exec_setEncoders_eq hs.1]
  exact whenServing_answer_refused (fields := fun r _ => readEncoderSettings r.payload) (hs.present pins) h

theorem exec_setEncoders_accepted {r : Frame} {rest : List Frame} {pins : EncoderPins} {s : State}
    (hs : s.serves 0x0C#8 r rest) {q : EncoderRequest} (h : readEncoderSettings r.payload = .ok q) :
    exec (.setEncoders pins) s = .next (setEncoders q ((presentEncoderPins pins s).replied r rest [0x00#8])) := by
  rw [exec_setEncoders_eq hs.1]
  refine (whenServing_answer_accepted (fields := fun r _ => readEncoderSettings r.payload) (effect := setEncoders)
    (hs.present pins) h (by simp [setEncoders]) (by simp [setEncoders])).trans ?_
  obtain ⟨channel, _, _, _⟩ := q
  cases channel <;> rfl

/-- Settles O45: the payload is read (`readEncoderSettings_of_inRange`) or refused with the code of the check that
fails, and the channel it names is configured (`configureChannel_eq`). -/
theorem setEncodersConfiguresTheNamedChannel : Obligations.SetEncodersConfiguresTheNamedChannel := by
  unfold Obligations.SetEncodersConfiguresTheNamedChannel
  intro r rest pins s hs u
  refine ⟨fun channel enabled steps interval hp => ?_, fun length => ?_⟩
  · intro inRange set
    have accepted (ranged : inRange) :=
      exec_setEncoders_accepted (pins := pins) hs (hp ▸ readEncoderSettings_of_inRange ranged)
    have configured (ranged : inRange) (named : Channel) (pair : QuadPair) (e : EncoderChannel) :
        configureChannel pair ⟨named, decide (enabled = 0x01#8), steps.toNat, interval.toNat * 10⟩ e = set pair e := by
      rw [configureChannel_eq]
      simp only [decide_on_eq_false_iff ranged.2.1, decide_eq_true_eq, set]
    refine ⟨fun ranged named => ?_, fun ranged named => ?_, fun wrong => ?_⟩
    · subst named
      exact (accepted ranged).trans (by rw [← configured ranged .e0]; rfl)
    · subst named
      exact (accepted ranged).trans (by rw [← configured ranged .e1]; rfl)
    · exact exec_setEncoders_refused hs (hp ▸ readEncoderSettings_of_not_inRange wrong)
  · exact exec_setEncoders_refused hs (readEncoderSettings_of_length_ne length)

end Sys2Proof.Machine
end

section
/-!
Obligation O32: the sleep entry check at the end of the SLEEP reply (R132, R133). Each of its three checks is stated as the
rule has it, and the first that applies names the obstacle.
-/
namespace Sys2Proof.Machine

/-! ### The three checks (R132) -/

/-- Check 1: a request waits, link-seen is set, or a notice is outstanding (R132). -/
def State.linkHoldsSleep (s : State) : Prop :=
  s.dispatch.requests ≠ [] ∨ s.power.linkSeen = true ∨ s.notices.outstanding ≠ []

/-- Check 2: a key is not UP, a press is held, an event waits, or a ghost or rollover is counted (R132). -/
def State.keysHoldSleep (s : State) : Prop :=
  (∃ k : KeyIndex, (s.record k).phase ≠ .up) ∨ s.chords.held ≠ [] ∨ s.queue ≠ [] ∨
    s.notices.fault.ghostCount ≠ 0 ∨ s.notices.fault.rolloverCount ≠ 0

/-- Check 3: a channel is eligible, or an encoder fault is counted (R132). -/
def State.encodersHoldSleep (s : State) : Prop :=
  (s.encoders.e0.eligible = true ∨ s.encoders.e1.eligible = true) ∨ s.notices.fault.e0Count ≠ 0 ∨
    s.notices.fault.e1Count ≠ 0

theorem EncoderChannel.eligible_iff (e : EncoderChannel) :
    e.eligible = true ↔ (e.delta ≠ 0 ∨ e.overFlag = true) ∧ e.timer = none := by
  simp [EncoderChannel.eligible, EncoderChannel.hasReport]

theorem linkHoldsSleep_iff (s : State) :
    (!s.dispatch.requests.isEmpty || s.power.linkSeen || !s.notices.outstanding.isEmpty) = true ↔ s.linkHoldsSleep := by
  simp [State.linkHoldsSleep, or_assoc]

theorem keysHoldSleep_iff (s : State) :
    (!s.allUp || !s.chords.held.isEmpty || !s.queue.isEmpty || s.notices.fault.ghostCount != 0 ||
      s.notices.fault.rolloverCount != 0) = true ↔ s.keysHoldSleep := by
  have moved : s.allUp = false ↔ ∃ k : KeyIndex, (s.record k).phase ≠ .up := by
    rw [← Bool.not_eq_true, allUp_iff, not_forall]
  simp [State.keysHoldSleep, or_assoc, moved]

theorem encodersHoldSleep_iff (s : State) :
    (s.anyEligible || s.notices.fault.e0Count != 0 || s.notices.fault.e1Count != 0) = true ↔ s.encodersHoldSleep := by
  simp [State.encodersHoldSleep, State.anyEligible, or_assoc]

theorem sleepObstacle_of_link {s : State} (h : s.linkHoldsSleep) : s.sleepObstacle = some .link :=
  if_pos ((linkHoldsSleep_iff s).2 h)

theorem sleepObstacle_of_keys {s : State} (noLink : ¬ s.linkHoldsSleep) (h : s.keysHoldSleep) :
    s.sleepObstacle = some .key :=
  (if_neg (mt (linkHoldsSleep_iff s).1 noLink)).trans (if_pos ((keysHoldSleep_iff s).2 h))

theorem sleepObstacle_of_encoders {s : State} (noLink : ¬ s.linkHoldsSleep) (noKeys : ¬ s.keysHoldSleep)
    (h : s.encodersHoldSleep) : s.sleepObstacle = some .encoder :=
  (if_neg (mt (linkHoldsSleep_iff s).1 noLink)).trans <|
    (if_neg (mt (keysHoldSleep_iff s).1 noKeys)).trans (if_pos ((encodersHoldSleep_iff s).2 h))

theorem sleepObstacle_eq_none {s : State} (noLink : ¬ s.linkHoldsSleep) (noKeys : ¬ s.keysHoldSleep)
    (noEncoders : ¬ s.encodersHoldSleep) : s.sleepObstacle = none :=
  (if_neg (mt (linkHoldsSleep_iff s).1 noLink)).trans <|
    (if_neg (mt (keysHoldSleep_iff s).1 noKeys)).trans (if_neg (mt (encodersHoldSleep_iff s).1 noEncoders))

/-! ### The end of the SLEEP reply (R132, R133, R146) -/

theorem checkSleepEntry_of_obstacle {s : State} {cause : WakeCause} (h : s.sleepObstacle = some cause) :
    checkSleepEntry s = abandonSleep cause s := by
  simp only [checkSleepEntry, h]

theorem checkSleepEntry_of_clear {s : State} (h : s.sleepObstacle = none) : checkSleepEntry s = enterSleep s := by
  simp only [checkSleepEntry, h]

/-- The end of a transmission with a frame on TXD (R146). -/
theorem exec_endOfTransmission_of_tx {pins : EncoderPins} {t : TxFrame} {s : State} (hl : s.live)
    (tx : s.link.tx = some t) :
    exec (.endOfTransmission pins) s = .next (endTransmission t (presentEncoderPins pins s)) := by
  rw [exec_event (c := .endOfTransmission pins) rfl nofun nofun, whenLive_of_live hl]
  simp only [liveStep, tx]

/-- The end of the SLEEP reply in SLEEP_WAIT is the sleep entry check, with the transmitter IDLE (R132, R146). -/
theorem endTransmission_of_sleepReply {f : Frame} {s : State} (kind : f.kind = 0x93#8) (payload : f.payload = [0x00#8])
    (waits : s.dispatch.phase = .sleepWait) :
    endTransmission { frame := f, source := .reply } s = checkSleepEntry { s with link.tx := none } := by
  have noRestart : ¬ (f.isOkReply 0x03#8 = true ∧ s.dispatch.phase = .restartWait) := by simp [waits]
  have sleeps : f.isOkReply 0x13#8 = true ∧ s.dispatch.phase = .sleepWait :=
    ⟨by simp [Frame.isOkReply, kind, payload, ResultCode.byte], waits⟩
  exact (if_neg noRestart).trans (if_pos sleeps)

/-- Sleep entry as one update, as the statement spells it (R117, R133, R134). -/
theorem enterSleep_eq (s : State) : enterSleep s = { s with
    power.state := .asleep
    power.linkSeen := false
    power.sweep := if s.scan.config.keyScanning = true then some (s.scan.panelTime + 20#16) else none
    scan.slotRunning := false
    scan.cutSlot := none
    lines := { position := 0xFF#8, segment := 0x0000#16, lit := 0, swept := 0xFF#8 }
    display.shown := Vector.ofFn fun _ : Position => 0x0000#16
    dispatch.phase := .idle } := rfl

/-- Settles O32: the end of the SLEEP reply is the sleep entry check (`endTransmission_of_sleepReply`), whose first check
that applies names the cause (`sleepObstacle_of_link` and the three lemmas after it). -/
theorem sleepEntryIsCheckedAgain : Obligations.SleepEntryIsCheckedAgain := by
  unfold Obligations.SleepEntryIsCheckedAgain
  intro pins f s hl tx kind payload waits u eligible check1 check2 check3 abandoned
  have checked : exec (.endOfTransmission pins) s = .next (checkSleepEntry u) :=
    (exec_endOfTransmission_of_tx hl tx).trans (congrArg _ (endTransmission_of_sleepReply kind payload waits))
  have abandons {cause : WakeCause} (h : u.sleepObstacle = some cause) :
      exec (.endOfTransmission pins) s = .next (abandoned cause) :=
    checked.trans (congrArg _ (checkSleepEntry_of_obstacle h))
  have encoders : check3 ↔ u.encodersHoldSleep := by
    simp only [State.encodersHoldSleep, EncoderChannel.eligible_iff, or_assoc]
    exact Iff.rfl
  refine ⟨fun link => ?_, fun noLink keys => ?_, fun noLink noKeys h3 => ?_, fun noLink noKeys h3 => ?_⟩
  · exact abandons (sleepObstacle_of_link link)
  · exact abandons (sleepObstacle_of_keys noLink keys)
  · exact abandons (sleepObstacle_of_encoders noLink noKeys (encoders.1 h3))
  · have clear : u.sleepObstacle = none := sleepObstacle_eq_none noLink noKeys (mt encoders.2 h3)
    rw [checked, checkSleepEntry_of_clear clear, enterSleep_eq]
    rfl

end Sys2Proof.Machine
end

section
/-!
Obligation O46: WRITE_DISPLAY and SET_GLYPHS replace their runs whole, or are refused (R119 to R122, R176). The length
check of WRITE_DISPLAY is one lemma (`splitRecords_append`): the walk over a payload takes the whole records that begin it
and goes on with what is left.
-/
namespace Sys2Proof.Machine

/-! ### Runs written into a table (R120, R122) -/

/-- A run written entry by entry, each to the place after the one before, replaces the places it reaches. -/
theorem writes_eq_ofFn {α : Type} {n : Nat} {write : Nat → List α → Vector α n → Vector α n}
    (nil : ∀ i v, write i [] v = v) (cons : ∀ i a l v, write i (a :: l) v = write (i + 1) l (v.setIfInBounds i a))
    (start : Nat) (run : List α) (v : Vector α n) :
    write start run v =
      Vector.ofFn fun p : Fin n => if start ≤ p.val then (run[p.val - start]?).getD v[p] else v[p] := by
  induction run generalizing start v with
  | nil => rw [nil]; ext p hp; simp
  | cons a rest ih =>
    rw [cons, ih]
    ext p hp
    simp only [Vector.getElem_ofFn, Fin.getElem_fin, Vector.getElem_setIfInBounds]
    rcases Nat.lt_trichotomy start p with before | rfl | after
    · have next : p - start = p - (start + 1) + 1 := by omega
      simp [before.le, Nat.succ_le_of_lt before, before.ne, next]
    · simp
    · simp [after.not_ge, after.ne', show ¬ start + 1 ≤ p by omega]

theorem writeRecords_eq (start : Nat) (records : List DisplayRecord) (v : Vector DisplayRecord 8) :
    writeRecords start records v = Vector.ofFn fun p : Position =>
      if start ≤ p.val then (records[p.val - start]?).getD v[p] else v[p] :=
  writes_eq_ofFn (fun _ _ => rfl) (fun _ _ _ _ => rfl) start records v

theorem writePatterns_eq (start : Nat) (patterns : List Pattern) (v : Vector Pattern 64) :
    writePatterns start patterns v = Vector.ofFn fun c : Fin 64 =>
      if start ≤ c.val then (patterns[c.val - start]?).getD v[c] else v[c] :=
  writes_eq_ofFn (fun _ _ => rfl) (fun _ _ _ _ => rfl) start patterns v

/-! ### Records as bytes (R119, 13 "Display record") -/

/-- A record's bytes before they are read: its mode, its attributes and the fields of its mode. -/
abbrev RawRecord := Byte × Byte × List Byte

def RawRecord.bytes (x : RawRecord) : List Byte := x.1 :: x.2.1 :: x.2.2

/-- The record has as many fields as its mode calls for, and none in a mode that does not exist (R119, R176). -/
def RawRecord.FullLength (x : RawRecord) : Prop :=
  x.2.2.length = if x.1 = 0x01#8 ∨ x.1 = 0x02#8 then 2 else 0

/-- The record's mode, its attributes, or its bank or glyph code is out of range (R119). -/
def RawRecord.OutOfRange (x : RawRecord) : Prop :=
  2 < x.1.toNat ∨ 7 < x.2.1.toNat ∨
    (x.1 = 0x01#8 ∧ ∃ bank code : Byte, x.2.2 = [bank, code] ∧ (1 < bank.toNat ∨ 63 < code.toNat))

/-- The attributes byte: point, blink and dim in bits 0 to 2 (13, "Display record"). -/
def attributesByte (point blink dim : Bool) : Byte :=
  BitVec.ofNat 8 ((if point = true then 2 ^ 0 else 0) + (if blink = true then 2 ^ 1 else 0) +
    (if dim = true then 2 ^ 2 else 0))

def DisplayMode.byte : DisplayMode → Byte
  | .blank => 0x00#8
  | .glyph _ _ => 0x01#8
  | .raw _ => 0x02#8

def DisplayMode.fields : DisplayMode → List Byte
  | .blank => []
  | .glyph bank code => [if bank = .a then 0x00#8 else 0x01#8, natByte code.val]
  | .raw w => wordBytes w

/-- The bytes that encode a record (13, "Display record"). -/
def DisplayRecord.raw (d : DisplayRecord) : RawRecord :=
  (d.mode.byte, attributesByte d.point d.blink d.dim, d.mode.fields)

/-- A record is encoded with the fields its mode calls for. -/
theorem forall_raw_fullLength (records : List DisplayRecord) :
    ∀ x ∈ records.map DisplayRecord.raw, RawRecord.FullLength x :=
  List.forall_mem_map.2 fun d _ => by
    obtain ⟨mode, _, _, _⟩ := d
    cases mode <;> rfl

/-! ### The walk over the records (R119, R176) -/

theorem RawRecord.length_bytes {x : RawRecord} (h : x.FullLength) : x.bytes.length = recordLength x.1 := by
  unfold RawRecord.FullLength at h
  rw [recordLength, RawRecord.bytes, List.length_cons, List.length_cons, h]
  split <;> rfl

/-- The walk takes a whole record off the payload. -/
theorem splitRecords_succ {x : RawRecord} (h : x.FullLength) (n : Nat) (rest : List Byte) :
    splitRecords (n + 1) (x.bytes ++ rest) = (splitRecords n rest).map (x.bytes :: ·) := by
  have length := RawRecord.length_bytes h
  have whole : ¬ (x.bytes ++ rest).length < recordLength x.1 := by rw [List.length_append]; omega
  have walk : splitRecords (n + 1) (x.bytes ++ rest) =
      if (x.bytes ++ rest).length < recordLength x.1 then none
      else (splitRecords n ((x.bytes ++ rest).drop (recordLength x.1))).map
        ((x.bytes ++ rest).take (recordLength x.1) :: ·) := rfl
  rw [walk, if_neg whole, ← length, List.drop_left, List.take_left]

/-- The walk takes the whole records that begin the payload, and goes on with what is left. -/
theorem splitRecords_append {raw : List RawRecord} (h : ∀ x ∈ raw, x.FullLength) (n : Nat) (more : List Byte) :
    splitRecords (raw.length + n) (raw.flatMap RawRecord.bytes ++ more) =
      (splitRecords n more).map (raw.map RawRecord.bytes ++ ·) := by
  induction raw with
  | nil => simp
  | cons x rest ih =>
    rw [List.length_cons, Nat.add_right_comm, List.flatMap_cons, List.append_assoc,
      splitRecords_succ (h x List.mem_cons_self), ih fun y hy => h y (List.mem_cons_of_mem _ hy), Option.map_map]
    rfl

theorem splitRecords_of_records {raw : List RawRecord} (h : ∀ x ∈ raw, x.FullLength) :
    splitRecords raw.length (raw.flatMap RawRecord.bytes) = some (raw.map RawRecord.bytes) := by
  simpa [splitRecords] using splitRecords_append h 0 []

/-- A payload that goes on after its last record. -/
theorem splitRecords_of_more {raw : List RawRecord} (h : ∀ x ∈ raw, x.FullLength) {more : List Byte} (left : more ≠ []) :
    splitRecords raw.length (raw.flatMap RawRecord.bytes ++ more) = none := by
  obtain ⟨b, rest, rfl⟩ := List.exists_cons_of_ne_nil left
  exact splitRecords_append h 0 (b :: rest)

/-- A payload that ends before or inside one of its records. -/
theorem splitRecords_of_short {raw : List RawRecord} (h : ∀ x ∈ raw, x.FullLength) {more : List Byte} {count : Nat}
    (missing : raw.length < count) (short : ∀ mode fields, more = mode :: fields → more.length < recordLength mode) :
    splitRecords count (raw.flatMap RawRecord.bytes ++ more) = none := by
  have ends : ∀ n, splitRecords (n + 1) more = none := by
    intro n
    cases more with
    | nil => rfl
    | cons mode fields => exact if_pos (short mode fields rfl)
  obtain ⟨n, rfl⟩ : ∃ n, count = raw.length + (n + 1) := ⟨count - raw.length - 1, by omega⟩
  rw [splitRecords_append h, ends, Option.map_none]

/-! ### One record read (R119) -/

theorem readKey_natByte (k : KeyIndex) : readKey (natByte k.val) = some k := by
  revert k; decide

theorem readWord_wordBytes (w : BitVec 16) : readWord (w.extractLsb' 8 8) (w.extractLsb' 0 8) = w :=
  BitVec.extractLsb'_append_extractLsb'

/-- A byte names a bank exactly from 0 to 1 (R119, R121). -/
theorem readBank_eq (b : Byte) : readBank b = if b.toNat ≤ 1 then some (if b = 0x00#8 then .a else .b) else none := by
  revert b; decide

theorem readBank_of_lt {b : Byte} (h : 1 < b.toNat) : readBank b = none := by
  rw [readBank_eq, if_neg (by omega)]

theorem readBank_bankByte (bank : Bank) : readBank (if bank = .a then 0x00#8 else 0x01#8) = some bank := by
  cases bank <;> rfl

theorem readFlags_attributesByte : ∀ point blink dim : Bool,
    readFlags 3 (attributesByte point blink dim) = some (attributesByte point blink dim) ∧
      (attributesByte point blink dim).getLsbD 0 = point ∧ (attributesByte point blink dim).getLsbD 1 = blink ∧
      (attributesByte point blink dim).getLsbD 2 = dim := by decide

theorem readMode_encoded (m : DisplayMode) : readMode m.byte m.fields = some m := by
  cases m with
  | blank => rfl
  | glyph bank code => simp [readMode, DisplayMode.byte, DisplayMode.fields, readBank_bankByte, readKey_natByte]
  | raw w => exact congrArg (fun v => some (DisplayMode.raw v)) (readWord_wordBytes w)

/-- A record is read from its attributes and its mode (R119). -/
theorem readRecord_bytes (x : RawRecord) :
    readRecord x.bytes = (readFlags 3 x.2.1).bind fun a => (readMode x.1 x.2.2).bind fun m =>
      some { mode := m, point := a.getLsbD 0, blink := a.getLsbD 1, dim := a.getLsbD 2 } := rfl

/-- An encoded record is read back. -/
theorem readRecord_raw (d : DisplayRecord) : readRecord d.raw.bytes = some d := by
  have ⟨attributes, point, blink, dim⟩ := readFlags_attributesByte d.point d.blink d.dim
  rw [readRecord_bytes, DisplayRecord.raw, attributes, readMode_encoded, Option.bind_some, Option.bind_some, point, blink,
    dim]

/-- No mode above 2 exists. -/
theorem readMode_of_lt {mode : Byte} (h : 2 < mode.toNat) (fields : List Byte) : readMode mode fields = none := by
  have none0 : mode ≠ 0x00#8 := by bv_omega
  have none1 : mode ≠ 0x01#8 := by bv_omega
  have none2 : mode ≠ 0x02#8 := by bv_omega
  unfold readMode
  split <;> simp [none0, none1, none2]

theorem readKey_of_lt {b : Byte} (h : 63 < b.toNat) : readKey b = none := dif_neg (by omega)

theorem readFlags_of_le {n : Nat} {b : Byte} (h : 2 ^ n ≤ b.toNat) : readFlags n b = none := if_neg (by omega)

theorem readRecord_of_outOfRange {x : RawRecord} (h : x.OutOfRange) : readRecord x.bytes = none := by
  rw [readRecord_bytes]
  rcases h with noMode | noAttributes | ⟨glyph, bank, code, fields, noBank | noCode⟩
  · simp [readMode_of_lt noMode]
  · rw [readFlags_of_le noAttributes, Option.bind_none]
  · simp [glyph, fields, readMode, readBank_of_lt noBank]
  · simp [glyph, fields, readMode, readKey_of_lt noCode]

/-- A list with an element that cannot be read cannot be read. -/
theorem mapM_eq_none_of_mem {α β : Type} {f : α → Option β} {l : List α} {a : α} (ha : a ∈ l) (h : f a = none) :
    l.mapM f = none := by
  cases read : l.mapM f with
  | none => rfl
  | some out =>
    obtain ⟨b, hb⟩ := of_mapM_eq_some read ha
    rw [h] at hb
    cases hb

/-! ### WRITE_DISPLAY (R119, R120) -/

/-- A start of 0 to 7, a count of 1 to 8, and no run past position 7 (R119). -/
def DisplayRunInRange (start n : Nat) : Prop :=
  start ≤ 7 ∧ 1 ≤ n ∧ start + n ≤ 8

theorem readDisplayWrite_of_length_lt {p : List Byte} (h : p.length < 2) : readDisplayWrite p = .error .badLength := by
  unfold readDisplayWrite
  split
  · simp only [List.length_cons] at h
    omega
  · rfl

theorem readDisplayWrite_of_no_split {start count : Byte} {bytes : List Byte}
    (h : splitRecords count.toNat bytes = none) : readDisplayWrite (start :: count :: bytes) = .error .badLength := by
  simp only [readDisplayWrite, h]

/-- A payload that passes its length check leaves the range check of the run and of each record. -/
theorem readDisplayWrite_of_inRange {start count : Byte} {raw : List RawRecord} (length : count.toNat = raw.length)
    (full : ∀ x ∈ raw, x.FullLength) (h : DisplayRunInRange start.toNat raw.length) :
    readDisplayWrite (start :: count :: raw.flatMap RawRecord.bytes) =
      orRange (((raw.map RawRecord.bytes).mapM readRecord).map fun records => (start.toNat, records)) := by
  have ⟨first, holds, last⟩ := h
  simp only [readDisplayWrite, length, splitRecords_of_records full]
  exact if_pos ⟨first, holds, by omega, last⟩

theorem readDisplayWrite_of_not_inRange {start count : Byte} {raw : List RawRecord} (length : count.toNat = raw.length)
    (full : ∀ x ∈ raw, x.FullLength) (h : ¬ DisplayRunInRange start.toNat raw.length) :
    readDisplayWrite (start :: count :: raw.flatMap RawRecord.bytes) = .error .range := by
  simp only [readDisplayWrite, length, splitRecords_of_records full]
  exact if_neg fun ⟨first, holds, _, last⟩ => h ⟨first, holds, last⟩

/-- The bytes of a run of records are read back. -/
theorem readDisplayWrite_of_records {start count : Byte} {records : List DisplayRecord}
    (length : count.toNat = records.length) (h : DisplayRunInRange start.toNat records.length) :
    readDisplayWrite (start :: count :: (records.map DisplayRecord.raw).flatMap RawRecord.bytes) =
      .ok (start.toNat, records) := by
  have read : ((records.map DisplayRecord.raw).map RawRecord.bytes).mapM readRecord = some (records.map id) := by
    rw [List.map_map, List.mapM_map]
    exact mapM_eq_some_map fun d _ => readRecord_raw d
  rw [readDisplayWrite_of_inRange (by simpa using length) (forall_raw_fullLength records)
    (by simpa using h), read, List.map_id]
  rfl

/-- Whole records of which one is out of range are refused with RANGE, whatever their run (R119). -/
theorem readDisplayWrite_of_outOfRange {start count : Byte} {raw : List RawRecord} (length : count.toNat = raw.length)
    (full : ∀ x ∈ raw, x.FullLength) {x : RawRecord} (hx : x ∈ raw) (h : x.OutOfRange) :
    readDisplayWrite (start :: count :: raw.flatMap RawRecord.bytes) = .error .range := by
  by_cases ranged : DisplayRunInRange start.toNat raw.length
  · rw [readDisplayWrite_of_inRange length full ranged,
      mapM_eq_none_of_mem (List.mem_map_of_mem hx) (readRecord_of_outOfRange h)]
    rfl
  · exact readDisplayWrite_of_not_inRange length full ranged

theorem exec_writeDisplay_refused {r : Frame} {rest : List Frame} {s : State} (hs : s.serves 0x0E#8 r rest)
    {code : ResultCode} (h : readDisplayWrite r.payload = .error code) :
    exec .writeDisplay s = .next (s.replied r rest [code.byte]) :=
  whenServing_answer_refused (fields := fun r _ => readDisplayWrite r.payload) hs h

theorem exec_writeDisplay_accepted {r : Frame} {rest : List Frame} {s : State} (hs : s.serves 0x0E#8 r rest)
    {start : Nat} {records : List DisplayRecord} (h : readDisplayWrite r.payload = .ok (start, records)) :
    exec .writeDisplay s = .next { s.replied r rest [0x00#8] with
      display.buffer := writeRecords start records s.display.buffer } :=
  whenServing_answer_accepted (fields := fun r _ => readDisplayWrite r.payload)
    (effect := fun w s => { s with display.buffer := writeRecords w.1 w.2 s.display.buffer }) hs h rfl rfl

/-! ### SET_GLYPHS (R121, R122) -/

/-- A start of 0 to 63, a count of 1 to 8, and no run past code 63 (R121). -/
def GlyphRunInRange (start n : Nat) : Prop :=
  start ≤ 63 ∧ 1 ≤ n ∧ n ≤ 8 ∧ start + n ≤ 64

theorem readPatterns_wordBytes (patterns : List Pattern) :
    readPatterns (patterns.flatMap wordBytes) = some patterns := by
  induction patterns with
  | nil => rfl
  | cons w rest ih =>
    refine (congrArg (Option.map _) ih).trans ?_
    rw [readWord_wordBytes, Option.map_some]

theorem length_flatMap_wordBytes (patterns : List Pattern) :
    (patterns.flatMap wordBytes).length = 2 * patterns.length := by
  simp [List.length_flatMap, wordBytes, Nat.mul_comm]

theorem readGlyphs_of_length_lt {p : List Byte} (h : p.length < 3) : readGlyphs p = .error .badLength := by
  unfold readGlyphs
  split
  · simp only [List.length_cons] at h
    omega
  · rfl

theorem readGlyphs_of_length_ne {bank start count : Byte} {bytes : List Byte} (h : bytes.length ≠ 2 * count.toNat) :
    readGlyphs (bank :: start :: count :: bytes) = .error .badLength :=
  if_pos h

/-- A run of patterns in range leaves the check of the bank (R121). -/
theorem readGlyphs_of_inRange {bank start count : Byte} {patterns : List Pattern}
    (length : count.toNat = patterns.length) (h : GlyphRunInRange start.toNat patterns.length) :
    readGlyphs (bank :: start :: count :: patterns.flatMap wordBytes) =
      orRange ((readBank bank).map fun named => (named, start.toNat, patterns)) := by
  have pairs : (patterns.flatMap wordBytes).length = 2 * count.toNat := by rw [length_flatMap_wordBytes, length]
  refine (if_neg (not_not.2 pairs)).trans ((if_pos (length ▸ h)).trans ?_)
  rw [readPatterns_wordBytes]
  cases readBank bank <;> rfl

theorem readGlyphs_of_not_inRange {bank start count : Byte} {patterns : List Pattern}
    (length : count.toNat = patterns.length) (h : ¬ GlyphRunInRange start.toNat patterns.length) :
    readGlyphs (bank :: start :: count :: patterns.flatMap wordBytes) = .error .range := by
  have pairs : (patterns.flatMap wordBytes).length = 2 * count.toNat := by rw [length_flatMap_wordBytes, length]
  exact (if_neg (not_not.2 pairs)).trans (if_neg (length ▸ h))

/-- A bank that does not exist is refused with RANGE, whatever its run (R121). -/
theorem readGlyphs_of_bank_lt {bank start count : Byte} {patterns : List Pattern}
    (length : count.toNat = patterns.length) (h : 1 < bank.toNat) :
    readGlyphs (bank :: start :: count :: patterns.flatMap wordBytes) = .error .range := by
  by_cases ranged : GlyphRunInRange start.toNat patterns.length
  · rw [readGlyphs_of_inRange length ranged, readBank_of_lt h]
    rfl
  · exact readGlyphs_of_not_inRange length ranged

theorem exec_setGlyphs_refused {r : Frame} {rest : List Frame} {s : State} (hs : s.serves 0x0F#8 r rest)
    {code : ResultCode} (h : readGlyphs r.payload = .error code) :
    exec .setGlyphs s = .next (s.replied r rest [code.byte]) :=
  whenServing_answer_refused (fields := fun r _ => readGlyphs r.payload) hs h

theorem exec_setGlyphs_accepted {r : Frame} {rest : List Frame} {s : State} (hs : s.serves 0x0F#8 r rest)
    {bank : Bank} {start : Nat} {patterns : List Pattern} (h : readGlyphs r.payload = .ok (bank, start, patterns)) :
    exec .setGlyphs s = .next (setGlyphs bank start patterns (s.replied r rest [0x00#8])) := by
  refine (whenServing_answer_accepted (fields := fun r _ => readGlyphs r.payload)
    (effect := fun g => setGlyphs g.1 g.2.1 g.2.2) hs h ?_ ?_).trans ?_ <;> cases bank <;> rfl

/-! ### Both requests -/

/-- Settles O46: a run in range is read back (`readDisplayWrite_of_records`, `readGlyphs_of_inRange`) and written whole
(`writeRecords_eq`, `writePatterns_eq`); any other payload fails the walk over its records, or a range. -/
theorem displayWritesReplaceTheirRuns : Obligations.DisplayWritesReplaceTheirRuns := by
  unfold Obligations.DisplayWritesReplaceTheirRuns
  intro r rest s bit encode
  have encoded (records : List DisplayRecord) :
      records.flatMap encode = (records.map DisplayRecord.raw).flatMap RawRecord.bytes := by
    rw [List.flatMap_map]
    refine List.flatMap_congr fun d _ => ?_
    obtain ⟨mode, _, _, _⟩ := d
    cases mode <;> rfl
  refine ⟨fun hs => ⟨fun start count records length hp => ?_, fun start count raw length full hp ⟨x, hx, wrong⟩ => ?_,
    fun start count raw more full hp => ⟨fun length left => ?_, fun missing short => ?_⟩, fun short => ?_⟩,
    fun hs => ⟨fun bank start count patterns length hp => ?_, fun bank start count bytes hp length => ?_,
      fun short => ?_⟩⟩
  · rw [encoded] at hp
    refine ⟨fun first holds last => ?_, fun outside => ?_⟩
    · rw [exec_writeDisplay_accepted hs (hp ▸ readDisplayWrite_of_records length ⟨first, holds, last⟩), writeRecords_eq]
    · have outOfRange : ¬ DisplayRunInRange start.toNat (records.map DisplayRecord.raw).length := by
        rw [List.length_map, DisplayRunInRange]
        omega
      exact exec_writeDisplay_refused hs (hp ▸ readDisplayWrite_of_not_inRange (by simpa using length)
        (forall_raw_fullLength records) outOfRange)
  · exact exec_writeDisplay_refused hs (code := .range)
      ((congrArg readDisplayWrite hp).trans (readDisplayWrite_of_outOfRange length full hx wrong))
  · exact exec_writeDisplay_refused hs (code := .badLength)
      ((congrArg readDisplayWrite hp).trans (readDisplayWrite_of_no_split (length ▸ splitRecords_of_more full left)))
  · exact exec_writeDisplay_refused hs (code := .badLength)
      ((congrArg readDisplayWrite hp).trans (readDisplayWrite_of_no_split (splitRecords_of_short full missing short)))
  · exact exec_writeDisplay_refused hs (readDisplayWrite_of_length_lt short)
  · intro inRange write
    refine ⟨fun ranged named => ?_, fun ranged named => ?_, fun wrong => ?_⟩
    · subst named
      have read : readGlyphs r.payload = .ok (.a, start.toNat, patterns) := hp ▸ readGlyphs_of_inRange length ranged
      rw [exec_setGlyphs_accepted hs read, setGlyphs, writePatterns_eq]
      rfl
    · subst named
      have read : readGlyphs r.payload = .ok (.b, start.toNat, patterns) := hp ▸ readGlyphs_of_inRange length ranged
      rw [exec_setGlyphs_accepted hs read, setGlyphs, writePatterns_eq]
      rfl
    · refine exec_setGlyphs_refused hs (code := .range) ((congrArg readGlyphs hp).trans ?_)
      rcases wrong with noBank | outside
      · exact readGlyphs_of_bank_lt length noBank
      · exact readGlyphs_of_not_inRange length outside
  · exact exec_setGlyphs_refused hs (hp ▸ readGlyphs_of_length_ne length)
  · exact exec_setGlyphs_refused hs (readGlyphs_of_length_lt short)

end Sys2Proof.Machine
end

section
/-!
Obligations O21 and O47: the display's two timers, its settings and its test (R113, R114, R123 to R125).
-/
namespace Sys2Proof.Machine

/-! ### The blink and test timers' expiries (R113, R114) -/

theorem exec_blinkTimerExpiry {s : State} (hl : s.live) : exec .blinkTimerExpiry s = .next (expireBlink s) :=
  whenLive_of_live hl

theorem exec_testTimerExpiry {s : State} (hl : s.live) : exec .testTimerExpiry s = .next (expireTest s) :=
  whenLive_of_live hl

/-- The half-period in force starts the blink timer again, in units of 125 ms (R113). -/
theorem expireBlink_of_due {s : State} (due : timerDue s.display.blinkTimer s.scan.panelTime = true) :
    expireBlink s = { s with
      display.blinkOn := !s.display.blinkOn
      display.blinkTimer := some (s.scan.panelTime + BitVec.ofNat 16 (125 * s.display.blinkHalf)) } := by
  refine (if_pos due).trans ?_
  rw [startTimer, blinkUnit, Nat.mul_comm]
  rfl

theorem expireBlink_of_not_due {s : State} (early : timerDue s.display.blinkTimer s.scan.panelTime = false) :
    expireBlink s = s :=
  if_neg (by simp [State.now, early])

theorem expireTest_of_due {s : State} (due : timerDue s.display.testTimer s.scan.panelTime = true) :
    expireTest s = { s with display.testTimer := none } :=
  if_pos due

theorem expireTest_of_not_due {s : State} (early : timerDue s.display.testTimer s.scan.panelTime = false) :
    expireTest s = s :=
  if_neg (by simp [State.now, early])

/-- Settles O21, each expiry at its tick and before it. -/
theorem blinkAndTestTimersExpire : Obligations.BlinkAndTestTimersExpire := by
  unfold Obligations.BlinkAndTestTimersExpire
  refine ⟨fun s hl due => ?_, fun s hl early => ?_, fun s hl due => ?_, fun s hl early => ?_⟩
  · rw [exec_blinkTimerExpiry hl, expireBlink_of_due due]
  · rw [exec_blinkTimerExpiry hl, expireBlink_of_not_due early]
  · rw [exec_testTimerExpiry hl, expireTest_of_due due]
  · rw [exec_testTimerExpiry hl, expireTest_of_not_due early]

/-! ### SET_DISPLAY (R123, R124) -/

/-- The three fields of SET_DISPLAY in their ranges (R123). -/
def DisplayFieldsInRange (enable brightness half : Byte) : Prop :=
  enable.toNat ≤ 1 ∧ 1 ≤ brightness.toNat ∧ brightness.toNat ≤ 16 ∧ half.toNat ≤ 8

theorem readDisplaySettings_of_inRange {enable brightness half : Byte} (h : DisplayFieldsInRange enable brightness half) :
    readDisplaySettings [enable, brightness, half] =
      .ok { enable := decide (enable = 0x01#8), brightness := brightness.toNat, blinkHalf := half.toNat } := by
  obtain ⟨flag, b1, b16, h8⟩ := h
  simp [readDisplaySettings, readBool_eq, flag, readRange_eq ⟨b1, b16⟩, readRange_eq ⟨Nat.zero_le _, h8⟩, orRange]

/-- A field out of its range leaves nothing to read: values read are in range (R123). -/
theorem readDisplaySettings_of_not_inRange {enable brightness half : Byte}
    (h : ¬ DisplayFieldsInRange enable brightness half) :
    readDisplaySettings [enable, brightness, half] = .error .range := by
  cases e : readDisplaySettings [enable, brightness, half] with
  | ok q =>
    have fields := orRange_ok e
    simp only [Option.bind_eq_bind, Option.bind_eq_some_iff] at fields
    obtain ⟨_, flag, _, bright, _, period, -⟩ := fields
    obtain ⟨rfl, b1, b16⟩ := readRange_some bright
    obtain ⟨rfl, -, h8⟩ := readRange_some period
    exact absurd ⟨readBool_some flag, b1, b16, h8⟩ h
  | error code => exact congrArg Except.error (orRange_error e)

theorem readDisplaySettings_of_length_ne {p : List Byte} (h : p.length ≠ 3) :
    readDisplaySettings p = .error .badLength := by
  unfold readDisplaySettings
  split
  · exact absurd rfl h
  · rfl

theorem byte_toNat_eq_zero_iff (b : Byte) : b.toNat = 0 ↔ b = 0x00#8 :=
  BitVec.toNat_inj (y := 0x00#8)

/-- The table of R124: the phase and the timer under a half-period of the given byte. -/
theorem blinkAfter_eq (now : Time) (before : Nat) (half : Byte) (on : Bool) (timer : Timer) :
    blinkAfter now before half.toNat on timer =
      (if half = 0x00#8 ∨ before = 0 then true else on,
       if half = 0x00#8 then none
       else if before = 0 then some (now + BitVec.ofNat 16 (125 * half.toNat))
       else timer) := by
  simp only [blinkAfter, byte_toNat_eq_zero_iff, startTimer, blinkUnit, Nat.mul_comm half.toNat]
  by_cases off : half = 0x00#8
  · simp [off]
  · by_cases was : before = 0 <;> simp [off, was]

theorem exec_setDisplay_refused {r : Frame} {rest : List Frame} {s : State} (hs : s.serves 0x10#8 r rest)
    {code : ResultCode} (h : readDisplaySettings r.payload = .error code) :
    exec .setDisplay s = .next (s.replied r rest [code.byte]) :=
  whenServing_answer_refused (fields := fun r _ => readDisplaySettings r.payload) hs h

theorem exec_setDisplay_accepted {r : Frame} {rest : List Frame} {s : State} (hs : s.serves 0x10#8 r rest)
    {q : DisplayRequest} (h : readDisplaySettings r.payload = .ok q) :
    exec .setDisplay s = .next (setDisplay q (s.replied r rest [0x00#8])) :=
  whenServing_answer_accepted (fields := fun r _ => readDisplaySettings r.payload) (effect := setDisplay) hs h rfl rfl

/-! ### DISPLAY_TEST (R125) -/

theorem readTestDuration_of_le {duration : Byte} (h : duration.toNat ≤ 50) :
    readTestDuration [duration] = .ok (duration.toNat * 100) := by
  simp [readTestDuration, readRange_eq ⟨Nat.zero_le _, h⟩, orRange]

theorem readTestDuration_of_lt {duration : Byte} (h : 50 < duration.toNat) :
    readTestDuration [duration] = .error .range := by
  have above : ¬ duration.toNat ≤ 50 := by omega
  simp [readTestDuration, readRange, above, orRange]

theorem readTestDuration_of_length_ne {p : List Byte} (h : p.length ≠ 1) : readTestDuration p = .error .badLength := by
  unfold readTestDuration
  split
  · exact absurd rfl h
  · rfl

/-- A test of the given duration, in units of 100 ms: 0 ends it, any other starts it afresh (R125). -/
theorem runTest_eq (duration : Byte) (s : State) :
    runTest (duration.toNat * 100) s = { s with
      display.testTimer :=
        if duration = 0x00#8 then none
        else some (s.scan.panelTime + BitVec.ofNat 16 (100 * duration.toNat)) } := by
  have zero : 100 * duration.toNat = 0 ↔ duration = 0x00#8 := by rw [← byte_toNat_eq_zero_iff]; omega
  simp only [runTest, Nat.mul_comm duration.toNat, zero, startTimer]
  rfl

theorem exec_displayTest_refused {r : Frame} {rest : List Frame} {s : State} (hs : s.serves 0x11#8 r rest)
    {code : ResultCode} (h : readTestDuration r.payload = .error code) :
    exec .displayTest s = .next (s.replied r rest [code.byte]) :=
  whenServing_answer_refused (fields := fun r _ => readTestDuration r.payload) hs h

theorem exec_displayTest_accepted {r : Frame} {rest : List Frame} {s : State} (hs : s.serves 0x11#8 r rest)
    {ms : Nat} (h : readTestDuration r.payload = .ok ms) :
    exec .displayTest s = .next (runTest ms (s.replied r rest [0x00#8])) :=
  whenServing_answer_accepted (fields := fun r _ => readTestDuration r.payload) (effect := runTest) hs h rfl rfl

/-- Settles O47: the payloads are read or refused with the code of the check that fails, the blink phase and timer follow
`blinkAfter_eq`, and the test `runTest_eq`. -/
theorem displaySettingsAndTestAreApplied : Obligations.DisplaySettingsAndTestAreApplied := by
  unfold Obligations.DisplaySettingsAndTestAreApplied
  refine fun r rest s => ⟨fun hs => ⟨fun enable brightness half hp => ⟨fun inRange => ?_, fun wrong => ?_⟩,
    fun length => ?_⟩, fun hs => ⟨fun duration hp => ⟨fun inRange => ?_, fun above => ?_⟩, fun length => ?_⟩⟩
  · rw [exec_setDisplay_accepted hs (hp ▸ readDisplaySettings_of_inRange inRange), setDisplay, blinkAfter_eq]
    rfl
  · exact exec_setDisplay_refused hs (hp ▸ readDisplaySettings_of_not_inRange wrong)
  · exact exec_setDisplay_refused hs (readDisplaySettings_of_length_ne length)
  · rw [exec_displayTest_accepted hs (hp ▸ readTestDuration_of_le inRange), runTest_eq]
    rfl
  · exact exec_displayTest_refused hs (hp ▸ readTestDuration_of_lt above)
  · exact exec_displayTest_refused hs (readTestDuration_of_length_ne length)

end Sys2Proof.Machine
end

section
/-!
Obligations O24 and O25: the receiver takes a good byte, and damaged frames are aborted and counted (R131, R135, R138 to
R142). Each state of the receiver and each damage has its own equation.
-/
namespace Sys2Proof.Machine

/-! ### The start bit and the arrival of a byte (R131, R135, R138) -/

theorem startBitTaken_iff (s : State) (sawHigh : Bool) :
    s.startBitTaken sawHigh = true ↔ s.link.lineHeld = false ∨ sawHigh = true := by
  simp [State.startBitTaken]

theorem byteArrives_link (s : State) : (byteArrives s).link = s.link := by
  unfold byteArrives; split <;> rfl

theorem byteArrives_panelTime (s : State) : (byteArrives s).scan.panelTime = s.scan.panelTime := by
  unfold byteArrives; split <;> rfl

theorem byteArrived_link (s : State) : s.byteArrived.link = { s.link with lineHeld := false } := by
  rw [← goodByteArrives_eq]
  exact byteArrives_link _

theorem byteArrived_panelTime (s : State) : s.byteArrived.scan.panelTime = s.scan.panelTime := by
  rw [← goodByteArrives_eq]
  exact byteArrives_panelTime _

theorem exec_receiveByte_of_taken {b : Byte} {sawHigh : Bool} {pins : EncoderPins} {s : State} (hl : s.live)
    (taken : s.link.lineHeld = false ∨ sawHigh = true) :
    exec (.receiveByte b sawHigh pins) s = .next (takeByte b (presentEncoderPins pins s).byteArrived) := by
  rw [exec_event (c := .receiveByte b sawHigh pins) rfl nofun nofun, whenLive_of_live hl, ← goodByteArrives_eq]
  exact congrArg _ (if_pos ((startBitTaken_iff s sawHigh).2 taken))

theorem exec_receiveByte_of_held {b : Byte} {pins : EncoderPins} {s : State} (hl : s.live)
    (held : s.link.lineHeld = true) :
    exec (.receiveByte b false pins) s = .next (presentEncoderPins pins s) := by
  rw [exec_event (c := .receiveByte b false pins) rfl nofun nofun, whenLive_of_live hl]
  exact congrArg _ (if_neg (by simp [startBitTaken_iff, held]))

/-! ### A good byte in each state of the receiver (R140 to R142) -/

theorem takeByte_of_hunt {b : Byte} {s : State} (rx : s.link.rx = .hunt) :
    takeByte b s = if b = 0xC3#8 then advanceRx .length s else s := by
  simp only [takeByte, rx]
  rfl

theorem takeByte_of_length {b : Byte} {s : State} (rx : s.link.rx = .length) :
    takeByte b s =
      if 2 ≤ b.toNat ∧ b.toNat ≤ 40 then advanceRx (.body b.toNat []) s
      else huntAgain { s with link.counters.lengthErrors := bump s.link.counters.lengthErrors } := by
  simp only [takeByte, rx, minLength, maxLength]

theorem takeByte_of_body {b : Byte} {len : Nat} {got : List Byte} {s : State} (rx : s.link.rx = .body len got) :
    takeByte b s =
      advanceRx (if got.length + 1 < len then .body len (got ++ [b]) else .check len (got ++ [b])) s := by
  simp only [takeByte, rx, List.length_append, List.length_singleton]

/-- The check byte of a frame whose bytes sum to 0x00 hands it on (R141, R144). -/
theorem takeByte_of_good_check {b kind tag : Byte} {payload : List Byte} {len : Nat} {s : State}
    (rx : s.link.rx = .check len (kind :: tag :: payload))
    (sum : natByte len + byteSum (kind :: tag :: payload) + b = 0x00#8) :
    takeByte b s = handOn { kind := kind, tag := tag, payload := payload } (huntAgain s) := by
  simp only [takeByte, rx, takeCheck, validFrame, if_pos sum, frameOfBody]

/-- Any other check byte is counted, and the frame discarded (R141). -/
theorem takeByte_of_bad_check {b : Byte} {body : List Byte} {len : Nat} {s : State} (rx : s.link.rx = .check len body)
    (sum : natByte len + byteSum body + b ≠ 0x00#8) :
    takeByte b s = huntAgain { s with link.counters.checkErrors := bump s.link.counters.checkErrors } := by
  simp only [takeByte, rx, takeCheck, validFrame, if_neg sum]

/-- Settles O24, by the equation of each receiver state, with the receiver's block as the byte's arrival leaves it
(`byteArrived_link`). -/
theorem receiverTakesAGoodByte : Obligations.ReceiverTakesAGoodByte := by
  unfold Obligations.ReceiverTakesAGoodByte
  refine ⟨fun b sawHigh pins s hl taken => ?_, fun b pins s hl held => exec_receiveByte_of_held hl held⟩
  intro u advance up
  have link : u.link = { s.link with lineHeld := false } := byteArrived_link (presentEncoderPins pins s)
  have rx : u.link.rx = s.link.rx := by rw [link]
  have counters : u.link.counters = s.link.counters := by rw [link]
  have advances (next : RxState) : advanceRx next u = advance next := by
    simp only [advanceRx, startTimer, State.now, u, byteArrived_panelTime]
    rfl
  rw [exec_receiveByte_of_taken hl taken]
  refine ⟨fun hunt lead => ?_, fun hunt other => ?_, fun length low high => ?_, fun length wrong => ?_,
    fun len got body => ?_, fun len kind tag payload check => ⟨fun good => ?_, fun bad => ?_⟩⟩
  · rw [takeByte_of_hunt (rx.trans hunt), if_pos lead, advances]
  · rw [takeByte_of_hunt (rx.trans hunt), if_neg other]
  · rw [takeByte_of_length (rx.trans length), if_pos ⟨low, high⟩, advances]
  · rw [takeByte_of_length (rx.trans length), if_neg (by omega), counters]
    rfl
  · rw [takeByte_of_body (rx.trans body), advances]
  · rw [takeByte_of_good_check (rx.trans check) good]
    rfl
  · rw [takeByte_of_bad_check (rx.trans check) bad, counters]
    rfl

/-! ### Framing errors and gaps (R138, R142) -/

theorem exec_framingError_of_taken {sawHigh : Bool} {pins : EncoderPins} {s : State} (hl : s.live)
    (taken : s.link.lineHeld = false ∨ sawHigh = true) :
    exec (.framingError sawHigh pins) s = .next (takeFramingError (byteArrives (presentEncoderPins pins s))) := by
  rw [exec_event (c := .framingError sawHigh pins) rfl nofun nofun, whenLive_of_live hl]
  exact congrArg _ (if_pos ((startBitTaken_iff s sawHigh).2 taken))

theorem exec_framingError_of_held {pins : EncoderPins} {s : State} (hl : s.live) (held : s.link.lineHeld = true) :
    exec (.framingError false pins) s = .next (presentEncoderPins pins s) := by
  rw [exec_event (c := .framingError false pins) rfl nofun nofun, whenLive_of_live hl]
  exact congrArg _ (if_neg (by simp [startBitTaken_iff, held]))

theorem exec_gapTimerExpiry {s : State} (hl : s.live) : exec .gapTimerExpiry s = .next (expireGap s) :=
  whenLive_of_live hl

theorem expireGap_of_due {s : State} (due : timerDue s.link.gapTimer s.scan.panelTime = true) :
    expireGap s = huntAgain { s with link.counters.gapAborts := bump s.link.counters.gapAborts } :=
  if_pos due

theorem expireGap_of_not_due {s : State} (early : timerDue s.link.gapTimer s.scan.panelTime = false) :
    expireGap s = s :=
  if_neg (by simp [State.now, early])

/-- Settles O25: the arrival counts as any byte's and leaves the link's block alone (`byteArrives_link`), and the gap
timer is taken at its tick and before it. -/
theorem damagedFramesAreAbortedAndCounted : Obligations.DamagedFramesAreAbortedAndCounted := by
  unfold Obligations.DamagedFramesAreAbortedAndCounted
  refine ⟨fun sawHigh pins s hl taken => ?_, fun pins s hl held => exec_framingError_of_held hl held,
    fun s hl due => ?_, fun s hl early => ?_⟩
  · intro shown u
    have arrived : byteArrives shown = u := by
      cases power : s.power.state <;> simp [byteArrives, u, shown, power]
    have link : u.link = s.link := by rw [← arrived, byteArrives_link]; rfl
    rw [exec_framingError_of_taken hl taken, arrived, takeFramingError, link]
    rfl
  · rw [exec_gapTimerExpiry hl, expireGap_of_due due]
    rfl
  · rw [exec_gapTimerExpiry hl, expireGap_of_not_due early]

end Sys2Proof.Machine
end

section
/-!
Obligations O22 and O48: the wake sweep, and the conditions under which SLEEP is accepted (R130, R134, R135).
-/
namespace Sys2Proof.Machine

/-! ### The sweep (R134, R135) -/

theorem someReturnLow_iff (s : State) : s.someReturnLow = true ↔ s.pins.returns ≠ 0xFF#8 := by
  have reads : s.someReturnLow = true ↔ ∃ l : ReturnLine, s.pins.returns.getLsbD l.val = false := by
    simp [State.someReturnLow, allLines]
  rw [reads, ← not_iff_not, not_exists, not_not]
  constructor
  · intro high
    refine BitVec.eq_of_getLsbD_eq fun i hi => ?_
    rw [inactive_getLsbD ⟨i, hi⟩, ← Bool.not_eq_false]
    exact high ⟨i, hi⟩
  · intro returns l
    rw [returns, inactive_getLsbD]
    decide

/-- The drive of a sweep as a number: all lines, less the N lowest. -/
theorem sweepDrive_eq (n : Nat) : sweepDrive n = BitVec.ofNat 8 (256 - 2 ^ n) := by
  by_cases small : n < 8
  · interval_cases n <;> rfl
  · have full : 2 ^ 8 ≤ 2 ^ n := Nat.pow_le_pow_right (by decide) (by omega)
    have allLow : 256 - 2 ^ n = 0 := by omega
    rw [allLow]
    exact BitVec.shiftLeft_eq_zero (by omega)

theorem sweepDue_iff (s : State) :
    s.sweepDue = true ↔ s.power.state = .asleep ∧ s.scan.config.keyScanning = true ∧
      timerDue s.power.sweep s.scan.panelTime = true := by
  simp [State.sweepDue, State.now, and_assoc]

theorem settleSweep_of_key {s : State} (low : s.pins.returns ≠ 0xFF#8) (keys : s.power.mask.keys = true) :
    settleSweep s = wakePart .key s :=
  if_pos (by simp [(someReturnLow_iff s).2 low, keys])

theorem settleSweep_of_no_key {s : State} (h : s.pins.returns = 0xFF#8 ∨ s.power.mask.keys = false) :
    settleSweep s = { s with power.sweep := some (s.scan.panelTime + 20#16) } := by
  refine if_neg ?_
  rw [Bool.and_eq_true, someReturnLow_iff]
  rintro ⟨low, keys⟩
  rcases h with high | masked
  · exact low high
  · exact Bool.false_ne_true (masked.symm.trans keys)

/-- WAKE_SWEEP with the levels it carries on the pins: a sweep if one is due (R134, log 3). -/
theorem exec_wakeSweep {returns : Byte} {pins : EncoderPins} {s : State} (hl : s.live) :
    exec (.wakeSweep returns pins) s = .next
      (if s.sweepDue = true then settleSweep (sweepLines (presentEncoderPins pins (presentReturns returns s)))
      else presentEncoderPins pins (presentReturns returns s)) := by
  rw [exec_event (c := .wakeSweep returns pins) rfl nofun nofun, whenLive_of_live hl]
  rfl

/-- Settles O22: what a sweep that is due reads (`settleSweep_of_key`, `settleSweep_of_no_key`) after it has driven its
lines (`sweepDrive_eq`), and no sweep otherwise. -/
theorem wakeSweepWakesOnAClosedKey : Obligations.WakeSweepWakesOnAClosedKey := by
  unfold Obligations.WakeSweepWakesOnAClosedKey
  intro returns pins s hl u due driven
  have lines : sweepLines u = driven := by
    simp only [sweepLines, sweepDrive_eq]
    rfl
  have swept (h : due) : exec (.wakeSweep returns pins) s = .next (settleSweep driven) := by
    rw [exec_wakeSweep hl, if_pos ((sweepDue_iff _).2 h), ← lines]
    rfl
  refine ⟨fun h low keys => ?_, fun h noKey => ?_, fun early => ?_⟩
  · exact (swept h).trans (congrArg _ (settleSweep_of_key low keys))
  · exact (swept h).trans (congrArg _ (settleSweep_of_no_key noKey))
  · rw [exec_wakeSweep hl, if_neg (mt (sweepDue_iff _).1 early)]
    rfl

/-! ### Requests with an execution of their own (R157) -/

/-- At a request, an execution that leaves the link alone is the whole step (R157). -/
theorem whenServing_serve_of_serves {kind : Byte} {execute : Frame → State → State} {r : Frame} {rest : List Frame}
    {s : State} (hs : s.serves kind r rest) (link : (execute r { s with dispatch.requests := rest }).link = s.link) :
    whenServing (serve kind execute) s = .next (execute r { s with dispatch.requests := rest }) := by
  rw [← serve_of_serves execute hs]
  exact whenServing_of_live hs.1 (by rw [serve_of_serves execute hs, link])

theorem finishRequest_of_taken (r : Frame) (rest : List Frame) (p : List Byte) (s : State) :
    finishRequest r p { s with dispatch.requests := rest } = s.replied r rest p := by
  rw [finishRequest_eq_replied r rest p s _ rfl]
  rfl

/-! ### SLEEP (R130) -/

theorem readWakeMask_of_le {mask : Byte} (h : mask.toNat ≤ 7) :
    readWakeMask [mask] = .ok { keys := mask.getLsbD 0, e0 := mask.getLsbD 1, e1 := mask.getLsbD 2 } := by
  have named : mask.toNat < 2 ^ 3 := by omega
  simp [readWakeMask, readFlags_of_lt named, orRange]

theorem readWakeMask_of_lt {mask : Byte} (h : 7 < mask.toNat) : readWakeMask [mask] = .error .range := by
  have unnamed : 2 ^ 3 ≤ mask.toNat := by omega
  simp [readWakeMask, readFlags_of_le unnamed, orRange]

theorem readWakeMask_of_length_ne {p : List Byte} (h : p.length ≠ 1) : readWakeMask p = .error .badLength := by
  unfold readWakeMask
  split
  · exact absurd rfl h
  · rfl

/-- No class is pending: each of the five sources is empty (R165). -/
theorem anyClassPending_eq_false_iff (s : State) :
    s.anyClassPending = false ↔ s.notices.ready = none ∧ s.notices.wake = none ∧ s.notices.fault.pending = false ∧
      s.queue = [] ∧ s.anyEligible = false := by
  simp [State.anyClassPending, classOrder, State.classPending]

/-- The six conditions of R130, with the classes' sources spelled out. -/
theorem quiet_iff (s : State) :
    s.quiet = true ↔ (∀ k : KeyIndex, (s.record k).phase = .up) ∧ s.chords.held = [] ∧ s.queue = [] ∧
      s.notices.outstanding = [] ∧ s.notices.ready = none ∧ s.notices.wake = none ∧
      s.notices.fault.pending = false ∧ s.anyEligible = false ∧ s.dispatch.requests = [] := by
  simp only [State.quiet, Bool.and_eq_true, Bool.not_eq_true', List.isEmpty_iff, allUp_iff, anyClassPending_eq_false_iff]
  tauto

theorem fault_pending_eq_false_iff (f : FaultRecord) :
    f.pending = false ↔ f.ghostCount = 0 ∧ f.rolloverCount = 0 ∧ f.e0Count = 0 ∧ f.e1Count = 0 := by
  simp [FaultRecord.pending, and_assoc]

theorem anyEligible_eq_false_iff (s : State) :
    s.anyEligible = false ↔ ¬ s.encoders.e0.eligible = true ∧ ¬ s.encoders.e1.eligible = true := by
  simp [State.anyEligible]

theorem exec_sleep_of_serves {r : Frame} {rest : List Frame} {s : State} (hs : s.serves 0x13#8 r rest) :
    exec .sleep s = .next (executeSleep r { s with dispatch.requests := rest }) := by
  refine whenServing_serve_of_serves hs ?_
  unfold executeSleep
  split
  · rfl
  · split <;> rfl

theorem exec_sleep_refused {r : Frame} {rest : List Frame} {s : State} (hs : s.serves 0x13#8 r rest)
    {code : ResultCode} (h : readWakeMask r.payload = .error code) :
    exec .sleep s = .next (s.replied r rest [code.byte]) := by
  simp only [exec_sleep_of_serves hs, executeSleep, h, finishRequest_of_taken]

theorem exec_sleep_busy {r : Frame} {rest : List Frame} {s : State} (hs : s.serves 0x13#8 r rest) {mask : WakeMask}
    (h : readWakeMask r.payload = .ok mask) (busy : ¬ State.quiet { s with dispatch.requests := rest } = true) :
    exec .sleep s = .next (s.replied r rest [0x04#8]) := by
  simp only [exec_sleep_of_serves hs, executeSleep, h, if_neg busy, finishRequest_of_taken]
  rfl

theorem exec_sleep_accepted {r : Frame} {rest : List Frame} {s : State} (hs : s.serves 0x13#8 r rest) {mask : WakeMask}
    (h : readWakeMask r.payload = .ok mask) (quiet : State.quiet { s with dispatch.requests := rest } = true) :
    exec .sleep s = .next (acceptSleep r mask { s with dispatch.requests := rest }) := by
  simp only [exec_sleep_of_serves hs, executeSleep, h, if_pos quiet]

/-- Settles O48: the checks in their order (`exec_sleep_refused`, `exec_sleep_busy`), the statement's conditions being
those of `quiet_iff`. -/
theorem sleepIsAcceptedOnlyWhenQuiet : Obligations.SleepIsAcceptedOnlyWhenQuiet := by
  unfold Obligations.SleepIsAcceptedOnlyWhenQuiet
  intro r rest s hs eligible quiet
  have quiets : State.quiet { s with dispatch.requests := rest } = true ↔ quiet := by
    simp only [quiet_iff, fault_pending_eq_false_iff, anyEligible_eq_false_iff, EncoderChannel.eligible_iff, and_assoc]
    exact Iff.rfl
  have kind : r.kind + 0x80#8 = 0x93#8 := by
    obtain ⟨-, -, -, -, -, kind⟩ := hs
    rw [kind]
    rfl
  refine ⟨fun mask hp => ⟨fun named still => ?_, fun named busy => ?_, fun unnamed => ?_⟩, fun length => ?_⟩
  · rw [exec_sleep_accepted hs (hp ▸ readWakeMask_of_le named) (quiets.2 still), acceptSleep, replyTo, kind]
    rfl
  · exact exec_sleep_busy hs (hp ▸ readWakeMask_of_le named) (mt quiets.1 busy)
  · exact exec_sleep_refused hs (hp ▸ readWakeMask_of_lt unnamed)
  · exact exec_sleep_refused hs (readWakeMask_of_length_ne length)

end Sys2Proof.Machine
end

section
/-!
Obligation O39: RESTART posts its reply and waits, and no request is taken while the dispatcher waits, the part is not
AWAKE or the reply list is full (R131, R156 to R158, R162).
-/
namespace Sys2Proof.Machine

/-! ### RESTART at a request (R162) -/

theorem exec_restart_of_serves {r : Frame} {rest : List Frame} {s : State} (hs : s.serves 0x03#8 r rest) :
    exec .restart s = .next (executeRestart r { s with dispatch.requests := rest }) := by
  refine whenServing_serve_of_serves hs ?_
  unfold executeRestart
  split <;> rfl

theorem exec_restart_accepted {r : Frame} {rest : List Frame} {s : State} (hs : s.serves 0x03#8 r rest)
    (empty : r.payload = []) :
    exec .restart s = .next { s with
      dispatch :=
        { requests := rest
          replies := s.dispatch.replies ++ [{ kind := 0x83#8, tag := r.tag, payload := [0x00#8] }]
          phase := .restartWait } } := by
  have kind : r.kind + 0x80#8 = 0x83#8 := by
    obtain ⟨-, -, -, -, -, kind⟩ := hs
    rw [kind]
    rfl
  rw [exec_restart_of_serves hs, executeRestart, empty, replyTo, kind]
  rfl

theorem exec_restart_refused {r : Frame} {rest : List Frame} {s : State} (hs : s.serves 0x03#8 r rest)
    (fields : r.payload ≠ []) : exec .restart s = .next (s.replied r rest [0x01#8]) := by
  rw [exec_restart_of_serves hs]
  simp only [executeRestart, readNone_of_ne_nil fields, finishRequest_of_taken]
  rfl

/-! ### When no request is taken (R131, R156 to R158) -/

/-- No request of the given kind is taken: the dispatcher waits, the part is not AWAKE, the reply list is full, or the
oldest request is of another kind or absent (R131, R156 to R158). -/
def State.TakesNone (kind : Byte) (s : State) : Prop :=
  s.dispatch.phase = .scanWait ∨ s.dispatch.phase = .restartWait ∨ s.dispatch.phase = .sleepWait ∨
    s.power.state ≠ .awake ∨ 4 ≤ s.dispatch.replies.length ∨
    (∀ r rest, s.dispatch.requests = r :: rest → r.kind ≠ kind)

/-- Each of these conditions contradicts one of those under which a request is taken (`canTake_iff`). -/
theorem serve_of_takesNone {kind : Byte} {s : State} (h : s.TakesNone kind) (execute : Frame → State → State) :
    serve kind execute s = s := by
  rcases serve_cases kind execute s with unchanged | ⟨r, rest, oldest, can, named, -⟩
  · exact unchanged
  · obtain ⟨phase, awake, room⟩ := (canTake_iff s).1 can
    rcases h with scan | restart | sleep | notAwake | full | other
    · simp [scan] at phase
    · simp [restart] at phase
    · simp [sleep] at phase
    · exact absurd awake notAwake
    · omega
    · exact absurd named (other r rest oldest)

theorem whenServing_of_takesNone {kind : Byte} {s : State} (hl : s.live) (h : s.TakesNone kind)
    (execute : Frame → State → State) : whenServing (serve kind execute) s = .next s := by
  have idle := serve_of_takesNone h execute
  rw [whenServing_of_live hl (by rw [idle]), idle]

/-- Every command that executes a request serves its kind and nothing else, but for the pin levels of SET_ENCODERS. -/
theorem exec_serves_requestKind {c : Instr} {kind : Byte} (hk : c.requestKind = some kind)
    (noPins : ∀ pins, c ≠ .setEncoders pins) (s : State) :
    ∃ execute, exec c s = whenServing (serve kind execute) s := by
  cases c
  case setEncoders pins => exact absurd rfl (noPins pins)
  all_goals cases hk <;> exact ⟨_, rfl⟩

/-- Settles O39: RESTART at a request, and every other command at a state that takes none (`whenServing_of_takesNone`). -/
theorem restartPostsItsReplyAndWaits : Obligations.RestartPostsItsReplyAndWaits := by
  unfold Obligations.RestartPostsItsReplyAndWaits
  refine ⟨fun r rest s hs => ⟨exec_restart_accepted hs, exec_restart_refused hs⟩, fun c kind s hk hl waits => ?_⟩
  have takesNone : s.TakesNone kind := waits
  refine ⟨fun noPins => ?_, fun pins hc => ?_⟩
  · obtain ⟨execute, serves⟩ := exec_serves_requestKind hk noPins s
    rw [serves, whenServing_of_takesNone hl takesNone]
  · subst hc
    cases hk
    have presented : (presentEncoderPins pins s).TakesNone 0x0C#8 := takesNone
    have live : (presentEncoderPins pins s).live := hl
    rw [exec_setEncoders_eq hl, whenServing_of_takesNone live presented]

end Sys2Proof.Machine
end

section
/-!
Obligation O26: the bytes of a frame hand exactly that frame on (R139 to R141, R144). The receiver is followed through the
lead byte, the length, the body by induction, and the check byte.
-/
namespace Sys2Proof.Machine

/-- The part takes the next byte from RXD with no wake and no wait: live, awake, and the line not held. -/
structure State.Listens (s : State) : Prop where
  live  : s.live
  awake : s.power.state = .awake
  line  : s.link.lineHeld = false

/-- The answer after one more byte, with the levels that stand on the encoder pins. -/
def receiveNext (r : Result) (b : Byte) : Result :=
  match r with
  | .next t => exec (.receiveByte b true ⟨t.pins.e0, t.pins.e1⟩) t
  | o => o

theorem State.Listens.byteArrived {s : State} (h : s.Listens) : s.byteArrived = s := by
  simp only [State.byteArrived, h.awake, ← h.line]

theorem State.Listens.advanceRx {s : State} (h : s.Listens) (rx : RxState) : (advanceRx rx s).Listens :=
  ⟨h.live, h.awake, h.line⟩

/-- While the part listens, a byte does what the receiver makes of it and nothing more. -/
theorem receiveNext_of_listens {s : State} (h : s.Listens) (b : Byte) :
    receiveNext (.next s) b = .next (takeByte b s) := by
  have shown : presentEncoderPins ⟨s.pins.e0, s.pins.e1⟩ s = s := rfl
  show exec (.receiveByte b true ⟨s.pins.e0, s.pins.e1⟩) s = _
  rw [exec_receiveByte_of_taken h.live (.inl h.line), shown, h.byteArrived]

/-- The rest of a body is gathered behind what the receiver has, and leaves it in CHECK (R140). -/
theorem receive_body {s : State} (h : s.Listens) {len : Nat} {rest : List Byte} (more : rest ≠ []) (got : List Byte)
    (fits : got.length + rest.length = len) :
    rest.foldl receiveNext (.next (advanceRx (.body len got) s)) = .next (advanceRx (.check len (got ++ rest)) s) := by
  induction rest generalizing got with
  | nil => exact absurd rfl more
  | cons b rest ih =>
    rw [List.length_cons] at fits
    rw [List.foldl_cons, receiveNext_of_listens (h.advanceRx _), takeByte_of_body rfl]
    by_cases last : rest = []
    · subst last
      rw [if_neg (by rw [← fits]; simp)]
      rfl
    · have left := List.length_pos_iff.2 last
      rw [if_pos (by omega)]
      exact (ih last (got ++ [b]) (by rw [List.length_append, List.length_singleton]; omega)).trans
        (by rw [List.append_assoc, List.singleton_append])

/-- The check byte of a frame makes its bytes after the lead byte sum to 0x00 (R139). -/
theorem frame_bytes_sum (f : Frame) : natByte f.body.length + byteSum f.body + f.check = 0x00#8 := by
  rw [Frame.check, BitVec.zero_sub, BitVec.add_right_neg]

/-- A length within a byte is the number its byte reads as. -/
theorem natByte_toNat {n : Nat} (h : n < 256) : (natByte n).toNat = n := Nat.mod_eq_of_lt h

/-- A receiver that has gone through a frame and back to HUNT is as it was there (R140). -/
theorem huntAgain_of_hunt {s : State} (rx : s.link.rx = .hunt) (gap : s.link.gapTimer = none) (r : RxState) :
    huntAgain (advanceRx r s) = s := by
  show { s with link.rx := RxState.hunt, link.gapTimer := none } = s
  rw [← rx, ← gap]

/-- Settles O26: the lead byte and the length open a body, `receive_body` gathers it, and the check byte is good
(`frame_bytes_sum`). -/
theorem receivingAFrameHandsItOn : Obligations.ReceivingAFrameHandsItOn := by
  unfold Obligations.ReceivingAFrameHandsItOn
  intro f s short live awake line rx gap
  have h : s.Listens := ⟨live, awake, line⟩
  have size : f.body.length = f.payload.length + 2 := rfl
  have length : (natByte f.body.length).toNat = f.body.length := natByte_toNat (by omega)
  have lead : receiveNext (.next s) leadByte = .next (advanceRx .length s) := by
    rw [receiveNext_of_listens h, takeByte_of_hunt rx, if_pos (show leadByte = 0xC3#8 from rfl)]
  have opened : receiveNext (.next (advanceRx .length s)) (natByte f.body.length) =
      .next (advanceRx (.body f.body.length []) s) := by
    rw [receiveNext_of_listens (h.advanceRx _), takeByte_of_length rfl, length, if_pos (by omega)]
    rfl
  have checked : receiveNext (.next (advanceRx (.check f.body.length f.body) s)) f.check = .next (handOn f s) := by
    rw [receiveNext_of_listens (h.advanceRx _), takeByte_of_good_check rfl (frame_bytes_sum f),
      huntAgain_of_hunt rx gap]
  calc f.bytes.foldl receiveNext (.next s)
      = [f.check].foldl receiveNext
          (f.body.foldl receiveNext (.next (advanceRx (.body f.body.length []) s))) := by
        rw [Frame.bytes, List.foldl_cons, lead, List.foldl_cons, opened, List.foldl_append]
    _ = receiveNext (.next (advanceRx (.check f.body.length f.body) s)) f.check := by
        rw [receive_body h (by simp [Frame.body]) [] (by simp)]
        rfl
    _ = .next (handOn f s) := checked

end Sys2Proof.Machine
end

section
/-!
Obligation O27: ACK removes the named notice and every older one, or is counted as unmatched (R144, R170, R171, R174).
-/
namespace Sys2Proof.Machine

/-! ### The frame held in CHECK (R140, R144, log 6) -/

/-- A frame held is one whose kind, tag and payload the receiver in CHECK has gathered (R140). -/
theorem check_of_frameHeld {s : State} {f : Frame} (h : s.frameHeld = some f) :
    ∃ len, s.link.rx = .check len (f.kind :: f.tag :: f.payload) := by
  unfold State.frameHeld at h
  split at h
  next len got rx =>
    unfold frameOfBody at h
    split at h
    next => cases h; exact ⟨len, rx⟩
    next => cases h
  next => cases h

/-- With no frame of the sort in hand nothing is completed (log 1, 6). -/
theorem completeHeld_of_other {sort : Byte → Bool} {s : State} (settle : Frame → State → State)
    (h : ∀ len kind tag payload, s.link.rx = .check len (kind :: tag :: payload) → sort kind = false) :
    completeHeld sort settle s = s := by
  rcases completeHeld_cases sort settle s with unchanged | ⟨f, held, ofSort, -⟩
  · exact unchanged
  · obtain ⟨len, rx⟩ := check_of_frameHeld held
    exact absurd ofSort (by simp [h len _ _ _ rx])

/-- The good check byte of a frame held of the sort settles it on the state the byte's arrival leaves (R144). -/
theorem completeHeld_of_check {sort : Byte → Bool} {len : Nat} {kind tag : Byte} {payload : List Byte} {s : State}
    (settle : Frame → State → State) (rx : s.link.rx = .check len (kind :: tag :: payload)) (ofSort : sort kind = true) :
    completeHeld sort settle s =
      settle { kind := kind, tag := tag, payload := payload } (huntAgain s.byteArrived) := by
  rw [completeHeld_of_held settle (frameHeld_of_check rx) ofSort, goodByteArrives_eq]

/-! ### Acknowledgement (R170, R171) -/

theorem handOn_ack {f : Frame} {s : State} (kind : f.kind = 0x20#8) : handOn f s = (settleAck f s).reported := by
  have settled : settleFrame f s = settleAck f s := by
    rw [settleFrame, kind]
    rfl
  rw [handOn, settled, reportValidFrame_eq]

/-- What stands behind the first entry of a sequence number is left by its acknowledgement (R171). -/
theorem entriesAfter_append {older newer : List OutstandingNotice} {n : OutstandingNotice}
    (h : ∀ o ∈ older, o.seq ≠ n.seq) : entriesAfter n.seq (older ++ n :: newer) = some newer := by
  induction older with
  | nil => simp [entriesAfter]
  | cons m older ih =>
    have other := h m List.mem_cons_self
    simpa [entriesAfter, other] using ih fun o ho => h o (List.mem_cons_of_mem _ ho)

/-- The acknowledgement timer after an ACK, as the statement spells it (R170). -/
theorem timerAfterAck_eq (left : List OutstandingNotice) (s : State) :
    timerAfterAck left s =
      if ∃ m ∈ left, m.transmit = .sent then
        if s.notices.state = .running then some (s.scan.panelTime + BitVec.ofNat 16 s.notices.timeout)
        else s.notices.timer
      else none := by
  have sentLeft : left.any (fun n => n.transmit == .sent) = true ↔ ∃ m ∈ left, m.transmit = .sent := by simp
  simp only [timerAfterAck, sentLeft]
  rfl

theorem settleAck_of_outstanding {f : Frame} {s : State} {older newer : List OutstandingNotice} {n : OutstandingNotice}
    (payload : f.payload = [n.seq]) (entries : s.notices.outstanding = older ++ n :: newer)
    (first : ∀ o ∈ older, o.seq ≠ n.seq) :
    settleAck f s = { s with notices.outstanding := newer, notices.timer := timerAfterAck newer s } := by
  simp only [settleAck, payload, acknowledge, entries, entriesAfter_append first]

/-- An ACK that names no outstanding entry, or nothing at all, is counted (R144, R171). -/
theorem settleAck_of_unmatched {f : Frame} {s : State} (h : ∀ n ∈ s.notices.outstanding, f.payload ≠ [n.seq]) :
    settleAck f s = countUnmatched s := by
  unfold settleAck
  split
  next seq payload =>
    have absent : entriesAfter seq s.notices.outstanding = none :=
      entriesAfter_none fun n hn same => h n hn (by rw [payload, same])
    simp only [acknowledge, absent]
  next => rfl

theorem exec_ack {s : State} (hl : s.live) :
    exec .ack s = .next (completeHeld (fun k => k == ackKind) (fun f t => reportValidFrame (settleAck f t)) s) :=
  whenLive_of_live hl

/-- Settles O27: the two ways an ACK is settled (`settleAck_of_outstanding`, `settleAck_of_unmatched`), and the command as
the completion of an ACK frame held. -/
theorem ackRemovesTheNamedNoticeAndAllOlder : Obligations.AckRemovesTheNamedNoticeAndAllOlder := by
  unfold Obligations.AckRemovesTheNamedNoticeAndAllOlder
  refine ⟨fun f s kind => ⟨fun older newer n payload entries first => ?_, fun unmatched => ?_⟩,
    fun len tag payload s hl rx => ?_, fun s hl other => ?_⟩
  · rw [handOn_ack kind, settleAck_of_outstanding payload entries first, timerAfterAck_eq]
  · rw [handOn_ack kind, settleAck_of_unmatched unmatched]
    rfl
  · rw [exec_ack hl, completeHeld_of_check _ rx rfl, reportValidFrame_eq, ← handOn_ack rfl]
    rfl
  · exact (exec_ack hl).trans (congrArg _ (completeHeld_of_other _ fun len kind tag payload rx =>
      beq_false_of_ne (other len kind tag payload rx)))

end Sys2Proof.Machine
end

section
/-!
Obligation O28: requests are queued, answered or dropped, frames of unknown kind rejected or dropped (R144, R153, R154,
R158), and the report of a request's frame may wait for the dispatcher's next execution (R174, log 7).
-/
namespace Sys2Proof.Machine

/-! ### The settlement of an arrival (R144, R153, R154, R158) -/

theorem isRequestKind_iff (kind : Byte) : isRequestKind kind = true ↔ 1 ≤ kind.toNat ∧ kind.toNat ≤ 21 := by
  simp [isRequestKind]

theorem isKnownKind_iff (kind : Byte) : isKnownKind kind = true ↔ isRequestKind kind = true ∨ kind = 0x20#8 := by
  simp [isKnownKind, ackKind, or_comm]

/-- An IDLE dispatcher waits where a request has no free place to be answered in; no other phase changes (R158). -/
theorem settleDispatcher_eq (s : State) :
    settleDispatcher s = { s with
      dispatch.phase :=
        if s.dispatch.phase = .idle ∧ s.power.state = .awake ∧ s.dispatch.requests ≠ [] ∧ 4 ≤ s.dispatch.replies.length
        then .waitReplySpace else s.dispatch.phase } := by
  unfold settleDispatcher
  by_cases rests : s.dispatch.phase = .idle ∧ s.power.state = .awake
  · simp only [rests, restingPhase, replyCapacity, and_self, true_and, if_true]
    rfl
  · rw [if_neg rests, if_neg fun h => rests ⟨h.1, h.2.1⟩]

/-- The three outcomes of an arriving request, each with the dispatcher settled after it (R154, R158). -/
theorem settleArrival_eq (f : Frame) (s : State) :
    settleArrival f s =
      if s.dispatch.requests.length < 4 then
        settleDispatcher { s with dispatch.requests := s.dispatch.requests ++ [f] }
      else if repliesHeld s.dispatch < 4 then settleDispatcher (refuseArrival f s)
      else settleDispatcher (dropFrame s) := by
  unfold settleArrival
  rw [apply_ite settleDispatcher, apply_ite settleDispatcher]
  rfl

/-- The two outcomes of a frame of unknown kind (R144, R154, R158). -/
theorem settleUnknown_eq (f : Frame) (s : State) :
    settleUnknown f s =
      if repliesHeld s.dispatch < 4 then settleDispatcher (postFrame (rejectFrame f) s)
      else settleDispatcher (dropFrame s) := by
  unfold settleUnknown
  rw [apply_ite settleDispatcher]
  rfl

theorem handOn_request {f : Frame} (s : State) (request : isRequestKind f.kind = true) :
    handOn f s = (settleArrival f s).reported := by
  rw [handOn, settleFrame, if_pos request, reportValidFrame_eq]

theorem handOn_unknown {f : Frame} (s : State) (unknown : ¬ isKnownKind f.kind = true) :
    handOn f s = (settleUnknown f s).reported := by
  rw [isKnownKind_iff, not_or] at unknown
  obtain ⟨noRequest, noAck⟩ := unknown
  rw [handOn, settleFrame, if_neg noRequest, if_neg (show ¬ f.kind = ackKind from noAck), reportValidFrame_eq]

/-! ### The two commands of a frame held (log 6) -/

theorem exec_requestArrival {s : State} (hl : s.live) :
    exec .requestArrival s =
      .next (completeHeld isRequestKind (fun f t => { settleArrival f t with link.reportOwed := true }) s) :=
  whenLive_of_live hl

theorem exec_unknownKindFrame {s : State} (hl : s.live) :
    exec .unknownKindFrame s =
      .next (completeHeld (fun k => !isKnownKind k) (fun f t => reportValidFrame (settleUnknown f t)) s) :=
  whenLive_of_live hl

/-- REQUEST_ARRIVAL with a request held: it is settled, and its report is owed (R154, log 7). -/
theorem exec_requestArrival_of_held {len : Nat} {f : Frame} {s : State} (hl : s.live)
    (rx : s.link.rx = .check len (f.kind :: f.tag :: f.payload)) (request : isRequestKind f.kind = true) :
    exec .requestArrival s =
      .next { settleArrival f (huntAgain s.byteArrived) with link.reportOwed := true } := by
  rw [exec_requestArrival hl, completeHeld_of_check _ rx request]

/-- UNKNOWN_KIND_FRAME with such a frame held: it is settled and reported (R144). -/
theorem exec_unknownKindFrame_of_held {len : Nat} {f : Frame} {s : State} (hl : s.live)
    (rx : s.link.rx = .check len (f.kind :: f.tag :: f.payload)) (unknown : ¬ isKnownKind f.kind = true) :
    exec .unknownKindFrame s = .next (settleUnknown f (huntAgain s.byteArrived)).reported := by
  rw [exec_unknownKindFrame hl, completeHeld_of_check _ rx (by simp [unknown]), reportValidFrame_eq]

/-! ### What the dispatcher's executions know of an owed report: nothing (R174, log 7) -/

/-- The state with the report of a valid frame owed or not. -/
def State.owing (owed : Bool) (s : State) : State := { s with link.reportOwed := owed }

/-- An operation that neither reads nor changes whether a report is owed. -/
def ReportBlind (f : State → State) : Prop := ∀ (owed : Bool) (s : State), f (s.owing owed) = (f s).owing owed

/-- Serving a request is blind to the report if its execution is. -/
theorem ReportBlind.serve {kind : Byte} {execute : Frame → State → State} (h : ∀ r, ReportBlind (execute r)) :
    ReportBlind (serve kind execute) := by
  intro owed s
  have dispatch : (s.owing owed).dispatch = s.dispatch := rfl
  have can : (s.owing owed).canTake = s.canTake := rfl
  unfold Machine.serve takeRequest
  rw [dispatch, can]
  cases s.dispatch.requests with
  | nil => rfl
  | cons r rest =>
    by_cases takes : s.canTake = true ∧ r.kind = kind
    · simp only [if_pos takes]
      exact h r owed { s with dispatch.requests := rest }
    · simp only [if_neg takes]

theorem finishRequest_blind (r : Frame) (payload : List Byte) : ReportBlind (finishRequest r payload) :=
  fun _ _ => rfl

/-- A request answered at execution is blind to the report if its checks, its effect and its reply are. -/
theorem ReportBlind.answer {α : Type} {fields : Frame → State → Read α} {effect : α → State → State}
    {reply : α → State → List Byte} (checks : ∀ r owed s, fields r (s.owing owed) = fields r s)
    (blind : ∀ a, ReportBlind (effect a)) (reads : ∀ a owed s, reply a (s.owing owed) = reply a s) (r : Frame) :
    ReportBlind fun s => answer (fields r s) effect reply r s := by
  intro owed s
  show Machine.answer (fields r (s.owing owed)) effect reply r (s.owing owed) =
    (Machine.answer (fields r s) effect reply r s).owing owed
  rw [checks]
  cases fields r s with
  | error code => rfl
  | ok a =>
    show finishRequest r (_ :: reply a (s.owing owed)) (effect a (s.owing owed)) = _
    rw [reads, blind]
    rfl

theorem flushHeld_blind : ReportBlind flushHeld := by
  intro owed s
  rw [flushHeld_eq, flushHeld_eq]
  rfl

theorem writeChord_blind (q : ChordRequest) : ReportBlind (writeChord q) := by
  intro owed s
  have held : (s.owing owed).chords.held.isEmpty = s.chords.held.isEmpty := rfl
  unfold writeChord
  rw [held, flushHeld_blind]
  cases s.chords.held.isEmpty <;> rfl

theorem setEncoders_blind (q : EncoderRequest) : ReportBlind (setEncoders q) := by
  intro owed s
  obtain ⟨channel, _, _, _⟩ := q
  cases channel <;> rfl

theorem executeRestart_blind (r : Frame) : ReportBlind (executeRestart r) := by
  intro owed s
  unfold executeRestart
  split <;> rfl

theorem executeSetScan_blind (r : Frame) : ReportBlind (executeSetScan r) := by
  intro owed s
  unfold executeSetScan
  split <;> rfl

theorem executeSleep_blind (r : Frame) : ReportBlind (executeSleep r) := by
  intro owed s
  have quiet : (s.owing owed).quiet = s.quiet := rfl
  unfold executeSleep
  rw [quiet]
  split
  · rfl
  · split <;> rfl

/-- The command is an execution by the dispatcher, blind to an owed report. -/
def ExecutesBlind (c : Instr) : Prop := ∃ f, ReportBlind f ∧ ∀ s, exec c s = whenServing f s

theorem ExecutesBlind.answer {α : Type} {c : Instr} {kind : Byte} {fields : Frame → State → Read α}
    {effect : α → State → State} {reply : α → State → List Byte}
    (execution : ∀ s, exec c s = whenServing (serve kind fun r u => answer (fields r u) effect reply r u) s)
    (checks : ∀ r owed s, fields r (s.owing owed) = fields r s) (blind : ∀ a, ReportBlind (effect a))
    (reads : ∀ a owed s, reply a (s.owing owed) = reply a s) : ExecutesBlind c :=
  ⟨_, .serve (.answer checks blind reads), execution⟩

/-- Every request's execution is blind to an owed report. -/
theorem exec_request_blind {c : Instr} {kind : Byte} (hk : c.requestKind = some kind) : ExecutesBlind c := by
  cases c
  case restart => exact ⟨_, .serve executeRestart_blind, fun _ => rfl⟩
  case setScan => exact ⟨_, .serve executeSetScan_blind, fun _ => rfl⟩
  case sleep => exact ⟨_, .serve executeSleep_blind, fun _ => rfl⟩
  case setEncoders pins =>
    have blind : ReportBlind (serve 0x0C#8 fun r => answer (readEncoderSettings r.payload) setEncoders noFields r) :=
      .serve (.answer (fields := fun r _ => readEncoderSettings r.payload) (fun _ _ _ => rfl) setEncoders_blind
        fun _ _ _ => rfl)
    exact ⟨_, fun owed s => blind owed (presentEncoderPins pins s), fun _ => rfl⟩
  case setChord => exact .answer (fun _ => rfl) (fun _ _ _ => rfl) writeChord_blind fun _ _ _ => rfl
  case readEncoders | getLinkStats =>
    exact .answer (fun _ => rfl) (fun _ _ _ => rfl) (fun clear _ _ => by cases clear <;> rfl) fun _ _ _ => rfl
  case setGlyphs =>
    exact .answer (fun _ => rfl) (fun _ _ _ => rfl) (fun (bank, _, _) _ _ => by cases bank <;> rfl) fun _ _ _ => rfl
  case identify | getStatus | setKeymap | getKeymap | readKeys | getChord | setTiming | flushKeys | writeDisplay |
      setDisplay | displayTest | readDisplay | setNotices =>
    exact .answer (fun _ => rfl) (fun _ _ _ => rfl) (fun _ _ _ => rfl) fun _ _ _ => rfl
  all_goals cases hk

/-! ### An owed report reaches the notice manager (R174, log 7) -/

theorem reported_live {s : State} (hl : s.live) : s.reported.live := by
  unfold State.reported
  split <;> exact hl

/-- Every step but the dispatcher's executions comes after the report. -/
theorem exec_event_of_owed {c : Instr} {s : State} (nrst : s.pins.nrst = true) (owed : s.link.reportOwed = true)
    (hk : c.requestKind = none) (hreset : ∀ cause spd pins, c ≠ .hardwareReset cause spd pins) (hlow : c ≠ .nrstHeldLow) :
    exec c s = exec c (s.owing false).reported := by
  rw [exec_event hk hreset hlow, exec_event hk hreset hlow, whenLive_eq, if_pos nrst, deliverReport_of_owed owed]
  exact (whenLive_of_live (reported_live (s := s.owing false) ⟨nrst, rfl⟩)).symm

/-- A dispatcher's execution comes before the report, and is the one it would be with none owed. -/
theorem whenServing_of_owed {f : State → State} (blind : ReportBlind f) {s : State} (nrst : s.pins.nrst = true)
    (owed : s.link.reportOwed = true) :
    whenServing f (s.owing false) = .next ((f s).owing false) ∧ whenServing f s = .next ((f s).owing false).reported := by
  have still : f s = (f s).owing true := by
    have same : s.owing true = s := by rw [State.owing, ← owed]
    rw [← blind, same]
  have owes : (f s).link.reportOwed = true := by rw [still]; rfl
  constructor
  · have live : (s.owing false).live := ⟨nrst, rfl⟩
    rw [whenServing_of_live live (by rw [blind]; rfl), blind]
  · rw [whenServing_eq, if_pos nrst, deliverReport_of_owed owes]
    rfl

/-- Settles O28: the outcomes of each arrival (`settleArrival_eq`, `settleUnknown_eq`) with the dispatcher settled after
them (`settleDispatcher_eq`), the two commands, and an owed report before an event and after an execution. -/
theorem arrivalsAreQueuedAnsweredOrDropped : Obligations.ArrivalsAreQueuedAnsweredOrDropped := by
  unfold Obligations.ArrivalsAreQueuedAnsweredOrDropped
  intro up request
  have requests (kind : Byte) : isRequestKind kind = true ↔ request kind := isRequestKind_iff kind
  have known (kind : Byte) : isKnownKind kind = true ↔ request kind ∨ kind = 0x20#8 := by
    rw [isKnownKind_iff, requests]
  refine ⟨fun f s => ?_, fun s hl => ⟨fun other => ?_, fun other => ?_⟩, fun c s nrst owed => ⟨?_, fun kind hk => ?_⟩⟩
  · intro settle held dropped arrived rejected
    have arrives : settleArrival f s = arrived := by
      simp only [settleArrival_eq, settleDispatcher_eq]
      rfl
    have rejects : settleUnknown f s = rejected := by
      simp only [settleUnknown_eq, settleDispatcher_eq]
      rfl
    have unknown (noRequest : ¬ request f.kind) (noAck : f.kind ≠ 0x20#8) : ¬ isKnownKind f.kind = true := by
      rw [known]
      exact not_or.2 ⟨noRequest, noAck⟩
    refine ⟨fun h => ?_, fun noRequest noAck => ?_, fun len before hl rx hs => ⟨fun h => ?_, fun noRequest noAck => ?_⟩⟩
    · rw [handOn_request s ((requests _).2 h), arrives]
    · rw [handOn_unknown s (unknown noRequest noAck), rejects]
    · have met : huntAgain before.byteArrived = s := hs.symm
      rw [exec_requestArrival_of_held hl rx ((requests _).2 h), met, arrives]
    · have met : huntAgain before.byteArrived = s := hs.symm
      rw [exec_unknownKindFrame_of_held hl rx (unknown noRequest noAck), met, rejects]
  · rw [exec_requestArrival hl, completeHeld_of_other _ fun len kind tag payload rx =>
      Bool.eq_false_iff.2 (mt (requests kind).1 (other len kind tag payload rx))]
  · refine (exec_unknownKindFrame hl).trans (congrArg _ (completeHeld_of_other _ fun len kind tag payload rx => ?_))
    rw [(known kind).2 (other len kind tag payload rx)]
    rfl
  · exact exec_event_of_owed nrst owed
  · obtain ⟨f, blind, serving⟩ := exec_request_blind hk
    rw [serving, serving]
    exact ⟨_, whenServing_of_owed blind nrst owed⟩

end Sys2Proof.Machine
end

section
/-!
Obligations O29 and O30: the arbiter's choice by the table of R147, and the end of a transmission (R145 to R147, R149,
R170, R174).
-/
namespace Sys2Proof.Machine

/-! ### The arbiter (R147) -/

theorem noticeWaits_iff (s : State) :
    s.noticeWaits = true ↔ s.notices.state = .running ∧ ∃ n ∈ s.notices.outstanding, n.transmit ≠ .sent := by
  simp [State.noticeWaits]

/-- The entry offered is the one behind those that are SENT (R147). -/
theorem offerNotice_append {older newer : List OutstandingNotice} {n : OutstandingNotice}
    (sent : ∀ o ∈ older, o.transmit = .sent) (unsent : n.transmit ≠ .sent) :
    offerNotice (older ++ n :: newer) = some (n, older ++ { n with transmit := .sent } :: newer) := by
  induction older with
  | nil => exact if_neg unsent
  | cons m older ih =>
    rw [List.cons_append, offerNotice, if_pos (sent m List.mem_cons_self),
      ih fun o ho => sent o (List.mem_cons_of_mem _ ho)]
    rfl

theorem chooseFrame_of_reply {f : Frame} {rest : List Frame} {s : State} (replies : s.dispatch.replies = f :: rest)
    (first : ¬ (s.noticeWaits = true ∧ 2 ≤ s.link.replyRun)) : chooseFrame s = beginReply f rest s := by
  simp only [chooseFrame, replies, if_neg first]

/-- A notice that waits is begun where no reply waits, or two have gone before it (R147). -/
theorem chooseFrame_of_notice {s : State} (waits : s.noticeWaits = true)
    (turn : s.dispatch.replies = [] ∨ 2 ≤ s.link.replyRun) : chooseFrame s = chooseNotice s := by
  unfold chooseFrame
  split
  next f rest replies =>
    have run : 2 ≤ s.link.replyRun := turn.resolve_left (by simp [replies])
    exact if_pos ⟨waits, run⟩
  next => exact if_pos waits

theorem chooseFrame_of_nothing {s : State} (replies : s.dispatch.replies = []) (nothing : ¬ s.noticeWaits = true) :
    chooseFrame s = s := by
  simp only [chooseFrame, replies, if_neg nothing]

theorem chooseNotice_of_offer {s : State} {older newer : List OutstandingNotice} {n : OutstandingNotice}
    (entries : s.notices.outstanding = older ++ n :: newer) (sent : ∀ o ∈ older, o.transmit = .sent)
    (unsent : n.transmit ≠ .sent) :
    chooseNotice s = beginNotice n (older ++ { n with transmit := .sent } :: newer) s := by
  simp only [chooseNotice, entries, offerNotice_append sent unsent]

theorem exec_arbiterChoice {s : State} (hl : s.live) :
    exec .arbiterChoice s = .next (if s.link.tx.isNone then chooseFrame s else s) := by
  rw [exec_event (c := .arbiterChoice) rfl nofun nofun, whenLive_of_live hl]
  rfl

theorem exec_arbiterChoice_of_idle {s : State} (hl : s.live) (idle : s.link.tx = none) :
    exec .arbiterChoice s = .next (chooseFrame s) := by
  rw [exec_arbiterChoice hl, if_pos (by simp [idle])]

theorem exec_arbiterChoice_of_sending {t : TxFrame} {s : State} (hl : s.live) (sending : s.link.tx = some t) :
    exec .arbiterChoice s = .next s := by
  rw [exec_arbiterChoice hl, if_neg (by simp [sending])]

/-- Settles O29: the row of R147's table that applies (`chooseFrame_of_reply` and the two lemmas after it), and the entry
the notice source offers (`chooseNotice_of_offer`). -/
theorem arbiterChoosesByItsTable : Obligations.ArbiterChoosesByItsTable := by
  unfold Obligations.ArbiterChoosesByItsTable
  intro s hl noticeWaits begun
  have waits : s.noticeWaits = true ↔ noticeWaits := noticeWaits_iff s
  refine ⟨fun idle => ⟨fun f rest replies first => ?_, fun older newer n running entries sent unsent turn => ?_,
    fun replies nothing => ?_⟩, fun t sending => exec_arbiterChoice_of_sending hl sending⟩
  · rw [exec_arbiterChoice_of_idle hl idle, chooseFrame_of_reply replies (by rwa [waits])]
    rfl
  · have waiting : s.noticeWaits = true := waits.2 ⟨running, n, by simp [entries], unsent⟩
    rw [exec_arbiterChoice_of_idle hl idle, chooseFrame_of_notice waiting turn, chooseNotice_of_offer entries sent unsent,
      ite_and]
    rfl
  · rw [exec_arbiterChoice_of_idle hl idle, chooseFrame_of_nothing replies (mt waits.1 nothing)]

/-! ### The end of a transmission (R146) -/

/-- With the transmitter IDLE, TXD rests high (R137). -/
theorem txdLevel_of_idle {s : State} (idle : s.link.tx = none) (bit : Nat) : s.txdLevel bit = true := by
  simp [State.txdLevel, State.txdBits, idle]

theorem isOkReply_iff (f : Frame) (kind : Byte) :
    f.isOkReply kind = true ↔ f.kind = kind + 0x80#8 ∧ f.payload = [0x00#8] := by
  simp [Frame.isOkReply, ResultCode.byte]

/-- The notice manager told of a sent notice changes its timer alone (R146, R170). -/
theorem noticeSent_eq (seq : Byte) (s : State) :
    noticeSent seq s = { s with
      notices.timer :=
        if s.notices.state = .running ∧ ∃ n ∈ s.notices.outstanding, n.seq = seq then
          some (s.scan.panelTime + BitVec.ofNat 16 s.notices.timeout)
        else s.notices.timer } := by
  have found : s.notices.outstanding.any (fun n => n.seq == seq) = true ↔ ∃ n ∈ s.notices.outstanding, n.seq = seq := by
    simp
  simp only [noticeSent, found]
  split <;> rfl

/-- A reply that neither RESTART nor SLEEP waits for is told to nobody (R146, log 13). -/
theorem replySent_of_plain {f : Frame} {s : State}
    (noRestart : ¬ (f.kind = 0x83#8 ∧ f.payload = [0x00#8] ∧ s.dispatch.phase = .restartWait))
    (noSleep : ¬ (f.kind = 0x93#8 ∧ f.payload = [0x00#8] ∧ s.dispatch.phase = .sleepWait)) : replySent f s = s := by
  rw [replySent, if_neg, if_neg]
  · rwa [isOkReply_iff, and_assoc]
  · rwa [isOkReply_iff, and_assoc]

theorem exec_endOfTransmission_of_idle {pins : EncoderPins} {s : State} (hl : s.live) (idle : s.link.tx = none) :
    exec (.endOfTransmission pins) s = .next (presentEncoderPins pins s) := by
  rw [exec_event (c := .endOfTransmission pins) rfl nofun nofun, whenLive_of_live hl]
  simp only [liveStep, idle]

/-- Settles O30: the source of the frame sent says who is told (`noticeSent_eq`, `replySent_of_plain`). -/
theorem endOfTransmissionOfNoticesAndPlainReplies : Obligations.EndOfTransmissionOfNoticesAndPlainReplies := by
  unfold Obligations.EndOfTransmissionOfNoticesAndPlainReplies
  intro pins s hl u
  refine ⟨txdLevel_of_idle rfl, fun f tx => ?_, fun f tx noRestart noSleep => ?_, fun idle => ?_⟩
  · exact (exec_endOfTransmission_of_tx hl tx).trans (congrArg _ (noticeSent_eq f.tag u))
  · exact (exec_endOfTransmission_of_tx hl tx).trans (congrArg _ (replySent_of_plain (s := u) noRestart noSleep))
  · have rests : u = presentEncoderPins pins s := by
      show { presentEncoderPins pins s with link.tx := none } = _
      rw [← idle]
      rfl
    rw [exec_endOfTransmission_of_idle hl idle, rests]

end Sys2Proof.Machine
end

section
/-!
Obligation O31: at the end of its reply RESTART leaves what a hardware reset leaves, but for the link's kept values and the
cause of READY (R163, R164, R167).
-/
namespace Sys2Proof.Machine

/-! ### The two resets (R10, R163) -/

/-- RESTART leaves the state a hardware reset of any cause leaves on the same pins, but for the position of a key sample
that may follow (log 27), the rate, the counters, the wait for RXD (log 9) and the cause of READY (R163, R164, R167). -/
theorem restartTakesEffect_eq (cause : ReadyCause) (s : State) :
    restartTakesEffect s = { hardwareResetEnds cause s with
      scan.cutSlot := s.sampledSlot
      link.rate := s.link.rate
      link.counters := s.link.counters
      link.lineHeld := s.link.lineHeld
      notices.ready := some .soft } := rfl

theorem sampledSlot_eq (s : State) :
    s.sampledSlot =
      if s.scan.slotRunning = true ∧ s.scan.config.keyScanning = true then some s.scan.slotIndex else none := by
  simp only [State.sampledSlot, Bool.and_eq_true]

/-- With NRST high already and SPD as it stands, a hardware reset reads only the encoder pins anew (R95, R137). -/
theorem exec_hardwareReset_of_nrst {cause : ReadyCause} (h : cause = .power ∨ cause = .pin) (pins : EncoderPins)
    {s : State} (nrst : s.pins.nrst = true) :
    exec (.hardwareReset cause s.pins.spd pins) s = .next (hardwareResetEnds cause (presentEncoderPins pins s)) := by
  have same : ({ s with pins.spd := s.pins.spd, pins.nrst := true } : State) = s := by rw [← nrst]
  rw [exec_hardwareReset h, same]

/-! ### The end of the RESTART reply (R146, R162, R163) -/

/-- The end of the RESTART reply in RESTART_WAIT lets RESTART take effect; its reset leaves the transmitter IDLE, whatever
was on TXD (R145, R146, R163). -/
theorem endTransmission_of_restartReply {f : Frame} {s : State} (kind : f.kind = 0x83#8) (payload : f.payload = [0x00#8])
    (waits : s.dispatch.phase = .restartWait) :
    endTransmission { frame := f, source := .reply } s = restartTakesEffect s :=
  if_pos ⟨(isOkReply_iff f 0x03#8).2 ⟨kind, payload⟩, waits⟩

/-- Settles O31: the end of the reply lets RESTART take effect (`endTransmission_of_restartReply`), which differs from a
hardware reset on the same pins in the values named alone (`restartTakesEffect_eq`). -/
theorem restartTakesEffectAtTheEndOfItsReply : Obligations.RestartTakesEffectAtTheEndOfItsReply := by
  unfold Obligations.RestartTakesEffectAtTheEndOfItsReply
  intro pins f s hl tx kind payload waits
  have ⟨nrst, _⟩ := hl
  have effect : exec (.endOfTransmission pins) s = .next (restartTakesEffect (presentEncoderPins pins s)) :=
    (exec_endOfTransmission_of_tx hl tx).trans (congrArg _ (endTransmission_of_restartReply kind payload waits))
  refine ⟨_, exec_hardwareReset_of_nrst (.inr rfl) pins nrst, ?_⟩
  rw [effect, restartTakesEffect_eq .pin, sampledSlot_eq]
  rfl

end Sys2Proof.Machine
end

section
/-!
Obligation O35: IDENTIFY answers its fixed values (R159).
-/
namespace Sys2Proof.Machine

/-- Settles O35: IDENTIFY reads nothing but its payload (`whenServing_readNone`), and `identifyFields` are constants in the
order of R159. -/
theorem identifyAnswersItsFixedValues : Obligations.IdentifyAnswersItsFixedValues := by
  unfold Obligations.IdentifyAnswersItsFixedValues
  intro r rest s hs
  exact whenServing_readNone (reply := fun _ => identifyFields) hs

end Sys2Proof.Machine
end

section
/-!
Obligation O1: a step runs the command at the front of the queue, and an empty queue idles (log 2).
-/
namespace Sys2Proof.Machine

/-- Settles O1, by the two shapes of the queue that `step` tells apart. -/
theorem stepRunsTheFrontCommand : Obligations.StepRunsTheFrontCommand := by
  unfold Obligations.StepRunsTheFrontCommand
  refine ⟨fun c rest s front => ?_, fun s empty => ?_⟩
  · simp only [step, front]
  · simp only [step, empty]

end Sys2Proof.Machine
end

section
/-!
Obligation O34: the acknowledgement timer's expiry retries the SENT entries or stalls (R9, R170, R172).
-/
namespace Sys2Proof.Machine

/-- Some SENT entry has been tried four times (R172). -/
theorem triesSpent_iff (q : List OutstandingNotice) :
    triesSpent q = true ↔ ∃ n ∈ q, n.transmit = .sent ∧ 4 ≤ n.tries := by
  simp only [triesSpent, List.any_eq_true, Bool.and_eq_true, beq_iff_eq, decide_eq_true_eq]
  exact Iff.rfl

theorem exec_acknowledgementTimerExpiry {s : State} (hl : s.live) :
    exec .acknowledgementTimerExpiry s = .next (expireAck s) :=
  whenLive_of_live hl

/-- With a try left to every SENT entry each is sent again (R172). -/
theorem expireAck_of_retry {s : State} (due : timerDue s.notices.timer s.scan.panelTime = true)
    (left : ¬ triesSpent s.notices.outstanding = true) :
    expireAck s = { s with notices.timer := none, notices.outstanding := s.notices.outstanding.map retryEntry } :=
  (if_pos due).trans (if_neg left)

/-- A SENT entry whose tries are spent stalls the notice manager (R172). -/
theorem expireAck_of_spent {s : State} (due : timerDue s.notices.timer s.scan.panelTime = true)
    (spent : triesSpent s.notices.outstanding = true) :
    expireAck s = { s with notices.timer := none, notices.state := .stalled } :=
  (if_pos due).trans (if_pos spent)

theorem expireAck_of_not_due {s : State} (early : timerDue s.notices.timer s.scan.panelTime = false) :
    expireAck s = s :=
  if_neg (by simp [State.now, early])

/-- Settles O34: the two outcomes of an expiry that is due (`expireAck_of_retry`, `expireAck_of_spent`) exclude each other
by `triesSpent_iff`. -/
theorem acknowledgementTimeoutRetriesOrStalls : Obligations.AcknowledgementTimeoutRetriesOrStalls := by
  unfold Obligations.AcknowledgementTimeoutRetriesOrStalls
  refine ⟨fun s hl due => ⟨fun left => ?_, fun spent => ?_⟩, fun s hl early => ?_⟩
  · have unspent : ¬ triesSpent s.notices.outstanding = true := fun spent => by
      obtain ⟨n, hn, sent, four⟩ := (triesSpent_iff _).1 spent
      exact absurd (left n hn sent) (Nat.not_lt.2 four)
    rw [exec_acknowledgementTimerExpiry hl, expireAck_of_retry due unspent]
    rfl
  · rw [exec_acknowledgementTimerExpiry hl, expireAck_of_spent due ((triesSpent_iff _).2 spent)]
  · rw [exec_acknowledgementTimerExpiry hl, expireAck_of_not_due early]

end Sys2Proof.Machine
end

section
/-!
Obligation O49: SET_NOTICES puts its three settings into force together (R175, R176).
-/
namespace Sys2Proof.Machine

/-- A mask is read exactly where bits 2 to 4 alone are set (R175). -/
theorem readClassMask_eq (b : Byte) :
    readClassMask b =
      if ∀ i : Nat, i < 8 → b.getLsbD i = true → 2 ≤ i ∧ i ≤ 4 then
        some { panelFault := b.getLsbD 2, keys := b.getLsbD 3, encoder := b.getLsbD 4 }
      else none := by
  have named : b &&& 0xE3#8 = 0#8 ↔ ∀ i : Nat, i < 8 → b.getLsbD i = true → 2 ≤ i ∧ i ≤ 4 := by
    revert b; decide
  simp only [readClassMask, named]

/-- The three fields of SET_NOTICES in their ranges, the timeout in steps (R175). -/
def NoticeFieldsInRange (mask window timeout : Byte) : Prop :=
  (∀ i : Nat, i < 8 → mask.getLsbD i = true → 2 ≤ i ∧ i ≤ 4) ∧ 1 ≤ window.toNat ∧ window.toNat ≤ 3 ∧
    2 ≤ timeout.toNat ∧ timeout.toNat ≤ 100

theorem readNoticeSettings_of_inRange {mask window timeout : Byte} (h : NoticeFieldsInRange mask window timeout) :
    readNoticeSettings [mask, window, timeout] = .ok
      { mask := { panelFault := mask.getLsbD 2, keys := mask.getLsbD 3, encoder := mask.getLsbD 4 },
        window := window.toNat, timeout := timeout.toNat * 10 } := by
  obtain ⟨bits, w1, w3, t2, t100⟩ := h
  simp [readNoticeSettings, readClassMask_eq, if_pos bits, readRange_eq ⟨w1, w3⟩, readRange_eq ⟨t2, t100⟩, orRange]

/-- A field out of its range leaves nothing to read: values read are in range (R175). -/
theorem readNoticeSettings_of_not_inRange {mask window timeout : Byte} (h : ¬ NoticeFieldsInRange mask window timeout) :
    readNoticeSettings [mask, window, timeout] = .error .range := by
  cases e : readNoticeSettings [mask, window, timeout] with
  | ok q =>
    have fields := orRange_ok e
    simp only [Option.bind_eq_bind, Option.bind_eq_some_iff] at fields
    obtain ⟨_, named, _, entries, _, time, -⟩ := fields
    rw [readClassMask_eq, Option.ite_none_right_eq_some] at named
    obtain ⟨rfl, w1, w3⟩ := readRange_some entries
    obtain ⟨rfl, t2, t100⟩ := readRange_some time
    exact absurd ⟨named.1, w1, w3, t2, t100⟩ h
  | error code => exact congrArg Except.error (orRange_error e)

theorem readNoticeSettings_of_length_ne {p : List Byte} (h : p.length ≠ 3) :
    readNoticeSettings p = .error .badLength := by
  unfold readNoticeSettings
  split
  · exact absurd rfl h
  · rfl

theorem exec_setNotices_refused {r : Frame} {rest : List Frame} {s : State} (hs : s.serves 0x14#8 r rest)
    {code : ResultCode} (h : readNoticeSettings r.payload = .error code) :
    exec .setNotices s = .next (s.replied r rest [code.byte]) :=
  whenServing_answer_refused (fields := fun r _ => readNoticeSettings r.payload) hs h

theorem exec_setNotices_accepted {r : Frame} {rest : List Frame} {s : State} (hs : s.serves 0x14#8 r rest)
    {q : NoticeRequest} (h : readNoticeSettings r.payload = .ok q) :
    exec .setNotices s = .next (setNotices q (s.replied r rest [0x00#8])) :=
  whenServing_answer_accepted (fields := fun r _ => readNoticeSettings r.payload) (effect := setNotices) hs h rfl rfl

/-- Settles O49: the payload is read (`readNoticeSettings_of_inRange`) or refused with the code of the check that fails. -/
theorem setNoticesSetsThreeSettings : Obligations.SetNoticesSetsThreeSettings := by
  unfold Obligations.SetNoticesSetsThreeSettings
  refine fun r rest s hs => ⟨fun mask window timeout hp => ⟨fun inRange => ?_, fun wrong => ?_⟩, fun length => ?_⟩
  · exact exec_setNotices_accepted hs (hp ▸ readNoticeSettings_of_inRange inRange)
  · exact exec_setNotices_refused hs (hp ▸ readNoticeSettings_of_not_inRange wrong)
  · exact exec_setNotices_refused hs (readNoticeSettings_of_length_ne length)

end Sys2Proof.Machine
end

section
/-!
Obligation O59: every step keeps the outstanding list, its sequence numbers, its try counts and the acknowledgement timer
sound. Most operations leave what the invariant reads as it is (`ManagerKept`); those that touch the entries either keep
their sequence numbers (`NoticesSound.withEntries`), append one or acknowledge the oldest ones.
-/
namespace Sys2Proof.Machine

/-! ### What the invariant reads -/

/-- What the invariant reads of the notice manager is the same in both states, and the part has not fallen ASLEEP. -/
structure ManagerKept (s t : State) : Prop where
  window      : t.notices.window = s.notices.window
  timeout     : t.notices.timeout = s.notices.timeout
  nextSeq     : t.notices.nextSeq = s.notices.nextSeq
  state       : t.notices.state = s.notices.state
  outstanding : t.notices.outstanding = s.notices.outstanding
  timer       : t.notices.timer = s.notices.timer
  asleep      : t.power.state = .asleep → s.power.state = .asleep

theorem ManagerKept.refl (s : State) : ManagerKept s s := ⟨rfl, rfl, rfl, rfl, rfl, rfl, id⟩

theorem ManagerKept.trans {s t u : State} (h : ManagerKept s t) (g : ManagerKept t u) : ManagerKept s u :=
  ⟨g.window.trans h.window, g.timeout.trans h.timeout, g.nextSeq.trans h.nextSeq, g.state.trans h.state,
    g.outstanding.trans h.outstanding, g.timer.trans h.timer, h.asleep ∘ g.asleep⟩

/-- Both outcomes of a condition. -/
theorem ManagerKept.ite {p : Prop} [Decidable p] {s t u : State} (ht : ManagerKept s t) (hu : ManagerKept s u) :
    ManagerKept s (if p then t else u) := by
  split
  · exact ht
  · exact hu

/-- An operation that leaves the notice manager and the power state alone. -/
theorem ManagerKept.of_eq {s t : State} (notices : t.notices = s.notices) (power : t.power.state = s.power.state) :
    ManagerKept s t := by
  constructor <;> simp [notices, power]

theorem LinkSideFrame.manager {s t : State} (f : LinkSideFrame s t) (notices : t.notices = s.notices) :
    ManagerKept s t :=
  .of_eq notices (congrArg PowerBlock.state f.power)

/-- The key path touches the fault record alone (R47). -/
theorem KeyPathFrame.manager {s t : State} (f : KeyPathFrame s t) : ManagerKept s t := by
  refine ⟨?_, ?_, ?_, ?_, ?_, ?_, fun sleeps => f.power ▸ sleeps⟩ <;> rw [← f.notices]

theorem NoticesSound.kept {s t : State} (h : NoticesSound s) (k : ManagerKept s t) : NoticesSound t where
  window := k.window ▸ h.window
  timeout := k.timeout ▸ h.timeout
  atMost := k.outstanding ▸ h.atMost
  consecutive := by rw [k.outstanding, k.nextSeq]; exact h.consecutive
  tries := k.outstanding ▸ h.tries
  timer := by rw [k.timer, k.state, k.outstanding]; exact h.timer
  asleep sleeps := k.outstanding.trans (h.asleep (k.asleep sleeps))

/-! ### Sequence numbers in a row (R168, R169) -/

/-- The entries carry the sequence numbers up to the last one given, in order. -/
def Consecutive (next : Byte) (q : List OutstandingNotice) : Prop :=
  q.map OutstandingNotice.seq = (List.range q.length).map fun i => next - BitVec.ofNat 8 (q.length - i)

/-- The oldest of n + 1 entries carries the number n + 1 before the next one. -/
theorem consecutive_cons {next : Byte} {n : OutstandingNotice} {q : List OutstandingNotice} :
    Consecutive next (n :: q) ↔ n.seq = next - BitVec.ofNat 8 (q.length + 1) ∧ Consecutive next q := by
  simp [Consecutive, List.range_succ_eq_map, Function.comp_def]

/-- What stands behind an entry is in a row by itself (R171). -/
theorem Consecutive.suffix {next : Byte} {older newer : List OutstandingNotice} (h : Consecutive next (older ++ newer)) :
    Consecutive next newer := by
  induction older with
  | nil => exact h
  | cons n older ih => exact ih (consecutive_cons.1 h).2

/-- A new entry takes the next number (R169). -/
theorem Consecutive.append {next : Byte} {q : List OutstandingNotice} {n : OutstandingNotice} (h : Consecutive next q)
    (seq : n.seq = next) : Consecutive (next + 1#8) (q ++ [n]) := by
  induction q with
  | nil => exact consecutive_cons.2 ⟨by simp [seq], rfl⟩
  | cons m q ih =>
    obtain ⟨first, rest⟩ := consecutive_cons.1 h
    refine (consecutive_cons (q := q ++ [n])).2 ⟨?_, ih rest⟩
    rw [first, List.length_append, List.length_singleton]
    bv_omega

/-! ### Operations that touch the entries -/

/-- New entries with the old sequence numbers, in any notice state, with 1 to 4 tries, and a timer that runs only while
RUNNING with an entry outstanding (R168, R170, R172). -/
theorem NoticesSound.withEntries {s : State} (h : NoticesSound s) {entries : List OutstandingNotice} {state : NoticeState}
    {timer : Timer} (seqs : entries.map OutstandingNotice.seq = s.notices.outstanding.map OutstandingNotice.seq)
    (tries : ∀ n ∈ entries, 1 ≤ n.tries ∧ n.tries ≤ 4)
    (runs : timer.isSome = true → state = .running ∧ s.notices.outstanding ≠ []) :
    NoticesSound { s with
      notices.outstanding := entries, notices.state := state, notices.timer := timer } := by
  have length : entries.length = s.notices.outstanding.length := by simpa using congrArg List.length seqs
  have empty : entries = [] ↔ s.notices.outstanding = [] := by
    rw [← List.length_eq_zero_iff, length, List.length_eq_zero_iff]
  exact
    { window := h.window
      timeout := h.timeout
      atMost := length ▸ h.atMost
      consecutive := by dsimp only; rw [seqs, length]; exact h.consecutive
      tries := tries
      timer := fun running => ⟨(runs running).1, mt empty.1 (runs running).2⟩
      asleep := fun sleeps => empty.2 (h.asleep sleeps) }

/-- A STALLED notice manager has its timer stopped, and comes back with every entry at its first try (R172, R174). -/
theorem reportValidFrame_noticesSound {s : State} (h : NoticesSound s) : NoticesSound (reportValidFrame s) := by
  rcases reportValidFrame_cases s with ⟨-, e⟩ | ⟨stalled, e⟩ <;> rw [e]
  · exact h
  · refine h.withEntries (timer := s.notices.timer) (by simp [resumeEntry, Function.comp_def]) (fun n hn => ?_)
      fun running => absurd (h.timer running).1 (by simp [stalled])
    obtain ⟨m, -, rfl⟩ := List.mem_map.1 hn
    exact ⟨Nat.le_refl 1, Nat.le_add_left 1 3⟩

theorem deliverReport_noticesSound {s : State} (h : NoticesSound s) : NoticesSound (deliverReport s) := by
  unfold deliverReport
  split
  · exact reportValidFrame_noticesSound (h.kept (.of_eq rfl rfl))
  · exact h

theorem retryEntry_seq (n : OutstandingNotice) : (retryEntry n).seq = n.seq := by
  unfold retryEntry; split <;> rfl

/-- The expiry stops the timer; a SENT entry is tried again only below its fourth try (R172). -/
theorem expireAck_noticesSound {s : State} (h : NoticesSound s) : NoticesSound (expireAck s) := by
  unfold expireAck
  split
  · split
    next => exact h.withEntries (entries := s.notices.outstanding) rfl h.tries nofun
    next left =>
      refine h.withEntries (state := s.notices.state) (by simp [retryEntry_seq, Function.comp_def]) (fun n hn => ?_) nofun
      obtain ⟨m, hm, rfl⟩ := List.mem_map.1 hn
      obtain ⟨one, four⟩ := h.tries m hm
      unfold retryEntry
      split
      next sent =>
        have below : ¬ 4 ≤ m.tries := fun spent => left ((triesSpent_iff _).2 ⟨m, hm, sent, spent⟩)
        dsimp only
        omega
      next => exact ⟨one, four⟩
  · exact h

/-- The notice begun becomes SENT in its place, with its tries as they are (R147, R170). -/
theorem chooseNotice_noticesSound {s : State} (h : NoticesSound s) : NoticesSound (chooseNotice s) := by
  unfold chooseNotice
  split
  next n entries offered =>
    obtain ⟨older, newer, parts, -, -, rfl⟩ := offerNotice_some offered
    have tries := h.tries
    simp only [parts, List.forall_mem_append, List.forall_mem_cons] at tries
    have begun := h.withEntries (entries := older ++ { n with transmit := .sent } :: newer) (by simp [parts])
      (by simpa only [List.forall_mem_append, List.forall_mem_cons] using tries) h.timer
    exact begun.kept (.of_eq rfl rfl)
  next => exact h

theorem chooseFrame_noticesSound {s : State} (h : NoticesSound s) : NoticesSound (chooseFrame s) := by
  unfold chooseFrame
  split
  · split
    · exact chooseNotice_noticesSound h
    · exact h.kept (.of_eq rfl rfl)
  · split
    · exact chooseNotice_noticesSound h
    · exact h

/-- The timer is started only while RUNNING, for an entry that is outstanding (R170). -/
theorem noticeSent_noticesSound {seq : Byte} {s : State} (h : NoticesSound s) : NoticesSound (noticeSent seq s) := by
  unfold noticeSent
  split
  next started =>
    obtain ⟨running, found⟩ := started
    obtain ⟨n, hn, -⟩ := List.any_eq_true.1 found
    exact h.withEntries (entries := s.notices.outstanding) rfl h.tries fun _ => ⟨running, List.ne_nil_of_mem hn⟩
  next => exact h

/-- After an ACK the timer runs only while RUNNING, for an entry that is left (R170). -/
theorem timerAfterAck_runs {left : List OutstandingNotice} {s : State} (h : NoticesSound s)
    (runs : (timerAfterAck left s).isSome = true) : s.notices.state = .running ∧ left ≠ [] := by
  unfold timerAfterAck at runs
  split at runs
  next sent =>
    obtain ⟨n, hn, -⟩ := List.any_eq_true.1 sent
    refine ⟨?_, List.ne_nil_of_mem hn⟩
    split at runs
    next running => exact running
    next => exact (h.timer runs).1
  next => cases runs

/-- The entries left by an ACK keep their numbers, and the timer runs on only for a SENT one among them (R170, R171). -/
theorem settleAck_noticesSound {f : Frame} {s : State} (h : NoticesSound s) : NoticesSound (settleAck f s) := by
  have unmatched : NoticesSound (countUnmatched s) := h.kept (.of_eq rfl rfl)
  unfold settleAck acknowledge
  split
  · split
    next newer found =>
      obtain ⟨older, n, entries, -, -⟩ := entriesAfter_some found
      have parts : s.notices.outstanding = (older ++ [n]) ++ newer := by simp [entries]
      have sub : newer ⊆ s.notices.outstanding := by simp [parts]
      have atMost := h.atMost
      rw [parts, List.length_append] at atMost
      exact
        { window := h.window
          timeout := h.timeout
          atMost := Nat.le_of_add_left_le atMost
          consecutive := Consecutive.suffix (older := older ++ [n]) (parts ▸ h.consecutive)
          tries := fun m hm => h.tries m (sub hm)
          timer := timerAfterAck_runs h
          asleep := fun sleeps => List.eq_nil_of_subset_nil (h.asleep sleeps ▸ sub) }
    next => exact unmatched
  · exact unmatched

/-! ### Composition (R169) -/

/-- Everything the composition of one class can do: append a notice once its source has given its content up, or nothing
where the class has no content. -/
theorem composeClass_cases (c : NoticeClass) (s : State) :
    composeClass c s = s ∨ ∃ content u, composeClass c s = appendNotice content u ∧ ManagerKept s u := by
  cases c with
  | ready =>
    simp only [composeClass]
    split
    · exact .inr ⟨_, _, rfl, rfl, rfl, rfl, rfl, rfl, rfl, id⟩
    · exact .inl rfl
  | wake =>
    simp only [composeClass]
    split
    · exact .inr ⟨_, _, rfl, rfl, rfl, rfl, rfl, rfl, rfl, id⟩
    · exact .inl rfl
  | panelFault | keys | encoder => exact .inr ⟨_, _, rfl, rfl, rfl, rfl, rfl, rfl, rfl, id⟩

/-- While composition may be made there is room below W for one entry more (R169). -/
theorem appendNotice_noticesSound {content : NoticeContent} {s : State} (h : NoticesSound s) (may : s.mayCompose = true) :
    NoticesSound (appendNotice content s) := by
  obtain ⟨running, room, awake⟩ := mayCompose_iff.1 may
  have one : 1 ≤ 1 ∧ 1 ≤ 4 := by decide
  have window := h.window
  exact
    { window := window
      timeout := h.timeout
      atMost := by
        simp only [appendNotice, List.length_append, List.length_singleton]
        omega
      consecutive := Consecutive.append h.consecutive rfl
      tries := List.forall_mem_append.2 ⟨h.tries, List.forall_mem_singleton.2 one⟩
      timer := fun _ => ⟨running, List.append_ne_nil_of_right_ne_nil _ (List.cons_ne_nil _ _)⟩
      asleep := fun sleeps => absurd sleeps awake }

theorem composeNotice_noticesSound {s : State} (h : NoticesSound s) : NoticesSound (composeNotice s) := by
  unfold composeNotice
  split
  next c _ =>
    split
    next may =>
      rcases composeClass_cases c s with e | ⟨content, u, e, k⟩ <;> rw [e]
      · exact h
      · refine appendNotice_noticesSound (h.kept k) (mayCompose_iff.2 ?_)
        obtain ⟨running, room, awake⟩ := mayCompose_iff.1 may
        exact ⟨k.state.trans running, by rwa [k.outstanding, k.window], mt k.asleep awake⟩
    next => exact h
  next => exact h

/-! ### Sleep, wake and the resets -/

theorem wakePart_manager (cause : WakeCause) (s : State) : ManagerKept s (wakePart cause s) :=
  ⟨rfl, rfl, rfl, rfl, rfl, rfl, nofun⟩

/-- The part falls ASLEEP only with nothing outstanding (R132). -/
theorem checkSleepEntry_noticesSound {s : State} (h : NoticesSound s) : NoticesSound (checkSleepEntry s) := by
  unfold checkSleepEntry
  split
  next => exact h.kept ⟨rfl, rfl, rfl, rfl, rfl, rfl, nofun⟩
  next clear =>
    have empty : s.notices.outstanding = [] := by
      by_contra some
      rw [sleepObstacle_of_link (.inr (.inr some))] at clear
      cases clear
    exact { h with asleep := fun _ => empty }

/-- Either reset leaves the settings of R168 and nothing outstanding. -/
theorem noticesSound_of_reset {cause : ReadyCause} {s : State} (notices : s.notices = resetNotices cause) :
    NoticesSound s := by
  constructor <;> simp [notices, resetNotices]

theorem endTransmission_noticesSound {f : TxFrame} {s : State} (h : NoticesSound s) :
    NoticesSound (endTransmission f s) := by
  have idle : NoticesSound { s with link.tx := none } := h.kept (.of_eq rfl rfl)
  rcases endTransmission_cases f s with ⟨-, e⟩ | ⟨-, -, -, e⟩ | ⟨-, -, e⟩ | e <;> rw [e]
  · exact noticeSent_noticesSound idle
  · exact noticesSound_of_reset (cause := .soft) rfl
  · exact checkSleepEntry_noticesSound idle
  · exact idle

/-! ### The panel side -/

theorem sampleEvent_manager (p : Position) (s : State) : ManagerKept s (sampleEvent p s) := by
  obtain ⟨table, e⟩ := updateContacts_frame p allLines s
  have contacts : ManagerKept s (allLines.foldl (updateContact p) s) := by
    rw [e]
    exact .of_eq rfl rfl
  exact contacts.trans (debounceSteps_frame p allLines _).manager

theorem settlePending_manager (s : State) : ManagerKept s (settlePending s) := by
  rcases settlePending_cases s with ⟨-, e⟩ | ⟨q, -, ⟨-, e⟩ | ⟨-, e⟩⟩ <;> rw [e]
  · exact .refl s
  · exact .of_eq rfl rfl
  · exact .of_eq rfl rfl

theorem endSlot_manager (s : State) : ManagerKept s (endSlot s) := by
  have sampled : ManagerKept s (if s.scan.config.keyScanning then sampleEvent s.scan.slotIndex s else s) :=
    .ite (sampleEvent_manager _ s) (.refl s)
  have released := sampled.trans (.of_eq (t := releaseSlot _) rfl rfl)
  rw [endSlot_eq]
  exact .ite (released.trans (settlePending_manager _)) released

theorem takeReading_manager (returns : Byte) (s : State) : ManagerKept s (takeReading returns s) := by
  have present : ManagerKept s (presentReturns returns s) := .of_eq rfl rfl
  rcases takeReading_cases returns s with ⟨-, -, e⟩ | ⟨p, -, -, -, e⟩ | ⟨-, e⟩ <;> rw [e]
  · exact present.trans (endSlot_manager _)
  · have taken : ManagerKept s { presentReturns returns s with scan.cutSlot := none } := .of_eq rfl rfl
    exact taken.trans (sampleEvent_manager p _)
  · exact .refl s

/-- A sample of an encoder touches the fault record alone (R98). -/
theorem takeSample_manager (c : Channel) (s : State) : ManagerKept s (takeSample c s) := by
  unfold takeSample
  exact .ite (by constructor <;> simp) (.of_eq (by simp) (by simp))

theorem expireCoalescing_manager (c : Channel) (s : State) : ManagerKept s (expireCoalescing c s) := by
  have stopped : ManagerKept s (s.setChannel c { s.channel c with timer := none }) := .of_eq (by simp) (by simp)
  exact .ite (stopped.trans (wakePart_manager .encoder _)) stopped

theorem sweepOnce_manager (s : State) : ManagerKept s (sweepOnce s) := by
  have driven : ManagerKept s (sweepLines s) := .of_eq rfl rfl
  exact .ite (driven.trans (wakePart_manager .key _)) (.of_eq rfl rfl)

/-! ### The link side -/

theorem byteArrives_manager (s : State) : ManagerKept s (byteArrives s) := by
  unfold byteArrives
  split
  · exact .refl s
  · exact .of_eq rfl rfl
  · exact wakePart_manager .link s

theorem goodByteArrives_manager (s : State) : ManagerKept s (goodByteArrives s) :=
  ManagerKept.trans (t := { s with link.lineHeld := false }) (.of_eq rfl rfl) (byteArrives_manager _)

theorem settleDispatcher_manager (s : State) : ManagerKept s (settleDispatcher s) := by
  unfold settleDispatcher
  exact .ite (.of_eq rfl rfl) (.refl s)

theorem settleArrival_manager (f : Frame) (s : State) : ManagerKept s (settleArrival f s) := by
  refine ManagerKept.trans ?_ (settleDispatcher_manager _)
  exact .ite (.of_eq rfl rfl) (.ite (.of_eq rfl rfl) (.of_eq rfl rfl))

theorem settleUnknown_manager (f : Frame) (s : State) : ManagerKept s (settleUnknown f s) := by
  refine ManagerKept.trans ?_ (settleDispatcher_manager _)
  exact .ite (.of_eq rfl rfl) (.of_eq rfl rfl)

theorem handOn_noticesSound {f : Frame} {s : State} (h : NoticesSound s) : NoticesSound (handOn f s) := by
  rcases handOn_cases f s with ⟨-, e⟩ | ⟨-, -, e⟩ | ⟨-, e⟩ <;> rw [e] <;> apply reportValidFrame_noticesSound
  · exact h.kept (settleArrival_manager f s)
  · exact settleAck_noticesSound h
  · exact h.kept (settleUnknown_manager f s)

/-- The receiver hands a valid frame on, or changes nothing but the link interface (R140, R141, R144). -/
theorem takeByte_noticesSound {b : Byte} {s : State} (h : NoticesSound s) : NoticesSound (takeByte b s) := by
  unfold takeByte
  split
  · exact h.kept (.ite (.of_eq rfl rfl) (.refl s))
  · exact h.kept (.ite (.of_eq rfl rfl) (.of_eq rfl rfl))
  · exact h.kept (.of_eq rfl rfl)
  · unfold takeCheck
    split
    · exact handOn_noticesSound (h.kept (.of_eq rfl rfl))
    · exact h.kept (.of_eq rfl rfl)

/-- The completion of a frame held keeps the notices sound if settling the frame does. -/
theorem completeHeld_noticesSound {sort : Byte → Bool} {settle : Frame → State → State} {s : State} (h : NoticesSound s)
    (settled : ∀ f u, NoticesSound u → NoticesSound (settle f u)) : NoticesSound (completeHeld sort settle s) := by
  rcases completeHeld_cases sort settle s with e | ⟨f, -, -, e⟩ <;> rw [e]
  · exact h
  · exact settled f _ ((h.kept (goodByteArrives_manager s)).kept (.of_eq rfl rfl))

/-! ### Every command -/

theorem liveStep_noticesSound (c : Instr) {s : State} (h : NoticesSound s) : NoticesSound (liveStep c s) := by
  have present (pins : EncoderPins) : ManagerKept s (presentEncoderPins pins s) := .of_eq rfl rfl
  cases c
  case noticeComposition => exact composeNotice_noticesSound h
  case acknowledgementTimerExpiry => exact expireAck_noticesSound h
  case ack =>
    exact completeHeld_noticesSound (sort := fun k => k == ackKind) h fun f u hu =>
      reportValidFrame_noticesSound (settleAck_noticesSound (f := f) hu)
  case unknownKindFrame =>
    exact completeHeld_noticesSound (sort := fun k => !isKnownKind k) h fun f u hu =>
      reportValidFrame_noticesSound (hu.kept (settleUnknown_manager f u))
  case requestArrival =>
    exact completeHeld_noticesSound (settle := fun f u => { settleArrival f u with link.reportOwed := true }) h
      fun f u hu => (hu.kept (settleArrival_manager f u)).kept (.of_eq rfl rfl)
  case receiveByte b sawHigh pins =>
    simp only [liveStep]
    split
    · exact takeByte_noticesSound (h.kept ((present pins).trans (goodByteArrives_manager _)))
    · exact h.kept (present pins)
  case arbiterChoice =>
    simp only [liveStep]
    split
    · exact chooseFrame_noticesSound h
    · exact h
  case endOfTransmission pins =>
    simp only [liveStep]
    split
    · exact endTransmission_noticesSound (h.kept (present pins))
    · exact h.kept (present pins)
  all_goals refine h.kept ?_
  case framingError sawHigh pins =>
    exact .ite (((present pins).trans (byteArrives_manager _)).trans (.of_eq rfl rfl)) (present pins)
  case slotEnd returns => exact takeReading_manager returns s
  case chordWindowExpiry => exact .ite (expireWindow_frame s).1.manager (.refl s)
  case repeatTimerExpiry =>
    simp only [liveStep]
    split
    · exact .ite (.of_eq rfl rfl) (.refl s)
    · exact .refl s
  case encoderSample ch q =>
    obtain ⟨power, notices⟩ := presentPair_frame ch q s
    have presented : ManagerKept s (presentPair ch q s) := .of_eq notices (congrArg PowerBlock.state power)
    exact .ite (presented.trans (takeSample_manager ch _)) presented
  case coalescingTimerExpiry ch pins =>
    exact .ite ((present pins).trans (expireCoalescing_manager ch _)) (present pins)
  case encoderPinChange pins => exact .ite ((present pins).trans (wakePart_manager .encoder _)) (present pins)
  case wakeSweep returns pins =>
    have presented : ManagerKept s (presentEncoderPins pins (presentReturns returns s)) := .of_eq rfl rfl
    exact .ite (presented.trans (sweepOnce_manager _)) presented
  case slotStart | holdTimerExpiry | blinkTimerExpiry | testTimerExpiry | gapTimerExpiry =>
    exact .ite (.of_eq rfl rfl) (.refl s)
  all_goals exact .of_eq rfl rfl

/-- Serving a request keeps the notices sound if executing it does. -/
theorem serve_noticesSound {kind : Byte} {execute : Frame → State → State} {s : State} (h : NoticesSound s)
    (executed : ∀ r u, NoticesSound u → NoticesSound (execute r u)) : NoticesSound (serve kind execute s) :=
  serve_keeps (Inv := NoticesSound) h fun r _ _ _ _ => executed r _ (h.kept (.of_eq rfl rfl))

/-- A request answered at execution keeps the notices sound if its effect does (R157). -/
theorem serve_answer_noticesSound {α : Type} {kind : Byte} {fields : Frame → State → Read α}
    {effect : α → State → State} {reply : α → State → List Byte} {s : State} (h : NoticesSound s)
    (effected : ∀ r a u, fields r u = .ok a → NoticesSound u → NoticesSound (effect a u)) :
    NoticesSound (serve kind (fun r u => answer (fields r u) effect reply r u) s) :=
  serve_noticesSound h fun r u hu => answer_keeps (Inv := NoticesSound) (fun _ => hu.kept (.of_eq rfl rfl)) fun a _ ha =>
    (effected r a u ha hu).kept (.of_eq rfl rfl)

theorem whenServing_noticesSound {f : State → State} {s t : State} (he : whenServing f s = .next t) (h : NoticesSound s)
    (served : NoticesSound (f s)) : NoticesSound t := by
  rcases whenServing_next he with ⟨-, rfl⟩ | ⟨-, rfl⟩
  · exact deliverReport_noticesSound served
  · exact h

/-- The settings of a SET_NOTICES that is accepted are in range, the timeout in milliseconds (R175). -/
theorem readNoticeSettings_range {p : List Byte} {q : NoticeRequest} (h : readNoticeSettings p = .ok q) :
    (1 ≤ q.window ∧ q.window ≤ 3) ∧ 20 ≤ q.timeout ∧ q.timeout ≤ 1000 := by
  by_cases length : p.length = 3
  · obtain ⟨mask, window, timeout, rfl⟩ := List.length_eq_three.1 length
    by_cases inRange : NoticeFieldsInRange mask window timeout
    · rw [readNoticeSettings_of_inRange inRange] at h
      obtain ⟨-, w1, w3, t2, t100⟩ := inRange
      injection h with h
      subst h
      exact ⟨⟨w1, w3⟩, by dsimp only; omega⟩
    · rw [readNoticeSettings_of_not_inRange inRange] at h
      cases h
  · rw [readNoticeSettings_of_length_ne length] at h
    cases h

/-- Of the requests SET_NOTICES alone touches the notice manager, and none of them the entries (R175). -/
theorem exec_request_noticesSound {c : Instr} {kind : Byte} {s t : State} (hk : c.requestKind = some kind)
    (h : NoticesSound s) (he : exec c s = .next t) : NoticesSound t := by
  cases c
  case setNotices =>
    refine whenServing_noticesSound he h (serve_answer_noticesSound h fun _ q u hq hu => ?_)
    obtain ⟨window, timeout⟩ := readNoticeSettings_range hq
    exact { hu with window := window, timeout := timeout }
  case restart =>
    refine whenServing_noticesSound he h (serve_noticesSound h fun r u hu => hu.kept ?_)
    unfold executeRestart
    split <;> exact .of_eq rfl rfl
  case setScan =>
    refine whenServing_noticesSound he h (serve_noticesSound h fun r u hu => hu.kept ?_)
    unfold executeSetScan
    split <;> exact .of_eq rfl rfl
  case sleep =>
    refine whenServing_noticesSound he h (serve_noticesSound h fun r u hu => hu.kept ?_)
    unfold executeSleep
    split
    · exact .of_eq rfl rfl
    · exact .ite ⟨rfl, rfl, rfl, rfl, rfl, rfl, nofun⟩ (.of_eq rfl rfl)
  case setChord =>
    refine whenServing_noticesSound he h (serve_answer_noticesSound h fun _ q u _ hu => hu.kept ?_)
    rw [writeChord_eq]
    split
    · exact .of_eq rfl rfl
    · exact (flushHeld_frame u).1.manager.trans (.of_eq rfl rfl)
  case setEncoders pins =>
    have he : execSetEncoders pins s = .next t := he
    unfold execSetEncoders at he
    have presented : NoticesSound (presentEncoderPins pins s) := h.kept (.of_eq rfl rfl)
    exact whenServing_noticesSound he h (serve_answer_noticesSound presented fun _ q u _ hu =>
      hu.kept (.of_eq (by simp [setEncoders]) (by simp [setEncoders])))
  case readEncoders | getLinkStats =>
    exact whenServing_noticesSound he h (serve_answer_noticesSound h fun _ clear u _ hu =>
      hu.kept (.ite (.of_eq rfl rfl) (.refl u)))
  case setGlyphs =>
    refine whenServing_noticesSound he h (serve_answer_noticesSound h fun _ (bank, start, patterns) u _ hu => hu.kept ?_)
    cases bank <;> exact .of_eq rfl rfl
  case identify | getStatus | setKeymap | getKeymap | readKeys | getChord | setTiming | flushKeys | writeDisplay |
      setDisplay | displayTest | readDisplay =>
    exact whenServing_noticesSound he h (serve_answer_noticesSound h fun _ _ _ _ hu => hu.kept (.of_eq rfl rfl))
  all_goals cases hk

/-- Everything a command that is no request can do: a hardware reset, NRST going low, its step after an owed report, or
nothing (log 7, 16, 17). -/
theorem exec_event_outcomes {c : Instr} {s t : State} (hk : c.requestKind = none) (he : exec c s = .next t) :
    (∃ cause spd pins, c = .hardwareReset cause spd pins ∧
      t = hardwareResetEnds cause (presentEncoderPins pins { s with pins.spd := spd, pins.nrst := true })) ∨
    (c = .nrstHeldLow ∧
      t = { s with pins.nrst := false, link.tx := none, scan.slotRunning := false, lines := releasedLines }) ∨
    t = liveStep c (deliverReport s) ∨ t = s := by
  by_cases hreset : ∃ cause spd pins, c = .hardwareReset cause spd pins
  · obtain ⟨cause, spd, pins, rfl⟩ := hreset
    simp only [exec, execHardwareReset] at he
    split at he <;> injection he with he
    · exact .inl ⟨cause, spd, pins, rfl, he.symm⟩
    · exact .inr (.inr (.inr he.symm))
  by_cases hlow : c = .nrstHeldLow
  · subst hlow
    injection he with he
    exact .inr (.inl ⟨rfl, he.symm⟩)
  rw [exec_event hk (fun cause spd pins hc => hreset ⟨cause, spd, pins, hc⟩) hlow] at he
  rcases whenLive_next he with ⟨-, stepped⟩ | ⟨-, same⟩
  · exact .inr (.inr (.inl stepped))
  · exact .inr (.inr (.inr same))

theorem exec_noticesSound (c : Instr) (s t : State) (h : NoticesSound s) (he : exec c s = .next t) :
    NoticesSound t := by
  cases hk : c.requestKind with
  | some kind => exact exec_request_noticesSound hk h he
  | none =>
    rcases exec_event_outcomes hk he with ⟨cause, _, _, -, rfl⟩ | ⟨-, rfl⟩ | rfl | rfl
    · exact noticesSound_of_reset (cause := cause) rfl
    · exact h.kept (.of_eq rfl rfl)
    · exact liveStep_noticesSound c (deliverReport_noticesSound h)
    · exact h

/-- Settles O59, by `exec_noticesSound` for every command. -/
theorem stepKeepsTheNoticesSound : Obligations.StepKeepsTheNoticesSound := by
  unfold Obligations.StepKeepsTheNoticesSound
  intro s t h hstep
  exact step_keeps (Inv := NoticesSound) (fun _ _ hu => hu.kept (.of_eq rfl rfl)) exec_noticesSound h hstep

end Sys2Proof.Machine
end
